-- ==== Sys2Proof/Word.lean ====
section
/-! DEFINITION. The byte of the host line and of the radio, and the plainest arithmetic of counts. -/

namespace Sys2Proof

/-- One byte, on the host link or on the radio. -/
abbrev Byte := BitVec 8

/-- A sum that saturates at `top` (00_scope, Units and quantities: "A counter saturates at its largest value"). -/
def satAdd (top a b : Nat) : Nat := min top (a + b)

end Sys2Proof
end

