-- ==== Sys2Proof/Config.lean ====
section
/-! DEFINITION. What one part fixes at manufacture, the free values the manual leaves open, and its numeric limits. -/

namespace Sys2Proof.Config

/-- The part revision, "a number fixed at manufacture" (R198). The manual gives no value: a free value (log 3). -/
opaque partRevision : Nat

/-- The n-th random number of the part. The manual says only that each value of a draw is equally likely
(R82, R108, R113), so the number is a free value (log 2). -/
opaque draw : Nat → Nat

/-- The kind byte of the reply to a frame whose kind byte is 80h or more. Section 12 gives "the request's code plus 80h",
which one byte cannot hold there: a free value (log 51). -/
opaque replyKindAbove : Byte → Byte

/-- The bytes in which the fields of a reply, a notice or an uplink block stand, where the manual fixes no layout for them
(12): free bytes (log 56). -/
opaque layout {α : Type} : α → List Byte

/-- The most a trip's fare can be (R34). -/
def fareTop : Nat := 999999
/-- The most a trip's extras can be (R12). -/
def extrasTop : Nat := 99999
/-- The top of a 32-bit count (R15, R40, R72). -/
def count32Top : Nat := 4294967295
/-- The top of a 40-bit sum (R72). -/
def sum40Top : Nat := 1099511627775
/-- The top of a 16-bit count (R15, R44, R72). -/
def count16Top : Nat := 65535
/-- The top of an 8-bit count (R15, R189). -/
def count8Top : Nat := 255
/-- The usable edges of one tick are limited to this (R48). -/
def edgesTop : Nat := 1023
/-- The reverse debt is limited to this (R48). -/
def debtTop : Nat := 4095
/-- The phase errors of ten ticks that raise a sensor fault (R45). -/
def phaseErrorLimit : Nat := 16
/-- The unmetered distance that raises an UNMETERED event, in metres (R41). -/
def unmeteredTop : Nat := 200
/-- The resume window, in ticks (R10). -/
def resumeWindow : Nat := 200
/-- The cancel window, in ticks (R171). -/
def cancelWindow : Nat := 100
/-- The CANCEL blocks that end a withdrawal (R173). -/
def cancelLimit : Nat := 10
/-- A fix older than this many ticks is STALE (R57). -/
def staleAfter : Nat := 300
/-- The age of a fix saturates here, in ticks (R57). -/
def ageTop : Nat := 655350
/-- The header loss timer's limit, in ticks (R85). -/
def headerLoss : Nat := 300
/-- The LOST period, in ticks (R87). -/
def lostPeriod : Nat := 1200
/-- The LOGON_HOLD timer, in ticks (R83). -/
def logonHold : Nat := 600
/-- The attempts of one logon (R82). -/
def logonAttempts : Nat := 8
/-- The hold of a failed accounting entry, in ticks (R115). -/
def accountingHold : Nat := 600
/-- The failed attempts after which a message has failed (R113). -/
def messageAttempts : Nat := 6
/-- The entries of the Uplink Queue (R99). -/
def queueSize : Nat := 16
/-- The records of the Trip Store (R20). -/
def storeSize : Nat := 32
/-- The entries of the Offer Table (R123), and of its removal history. -/
def offerSize : Nat := 6
/-- The award deadline, in ticks (R132). -/
def awardDeadline : Nat := 300
/-- The booking answer timer, in ticks (R145). -/
def bookingAnswer : Nat := 300
/-- The messages of the mailbox (R152). -/
def mailboxSize : Nat := 8
/-- The header count that discards a reassembly buffer (R151). -/
def reassemblyLimit : Nat := 8
/-- The input frame queue (R190). -/
def inputSize : Nat := 4
/-- The notice queue (R193). -/
def noticeSize : Nat := 16
/-- The largest body of a host frame (R188). -/
def bodyTop : Nat := 200
/-- The bands of a schedule (R64). -/
def scheduleSize : Nat := 12
/-- The largest job number (R123). -/
def jobTop : Nat := 16777215
/-- The seconds of a day. -/
def daySeconds : Nat := 86400
/-- The largest short address (R84). -/
def addressTop : Nat := 2000

end Sys2Proof.Config
end

