-- ==== Sys2Proof/Syntax.lean ====
section
/-! DEFINITION. The commands of the part: one constructor per row of spec/opcode_table.json. -/

namespace Sys2Proof

/-- The address of a downlink block other than a header part (05, Downlink blocks). An identity, where a block carries
one, stands in its content. -/
inductive DownAddr where
  | all
  | short (address : Nat)
  | zone (zone : Nat)
deriving DecidableEq, Repr

/-- The classes of a dispatcher's text (08, Inbound parts). -/
inductive MsgClass where
  | normal
  | priority
  | broadcast
deriving DecidableEq, Repr

/-- The two reassembly buffers of the Mailbox (R149). -/
inductive BufferId where
  | first
  | second
deriving DecidableEq, Repr

/-- The fields of a TEXT_PART (08, Inbound parts). `cls` is none for a class that is none of the three (R148). -/
structure TextPart where
  number : Nat
  cls : Option MsgClass
  index : Nat
  count : Nat
  codes : Nat
  positions : List Byte
deriving DecidableEq, Repr

/-- The commands. A request carries its tag and its body as received (R191); a downlink block its address and the
fields its rule names; an event of the timebase or of the radio port what the port reports with it. -/
inductive Instr where
  /-- POWER_ON, R25, R51, R73, R177: supply returns. `backup` is the outage in ticks when the backup supply kept the clock running, none when it failed; `backedKept` says whether backed storage survived. -/
  | powerOn (backup : Option Nat) (backedKept : Bool)
  /-- SUPPLY_WARNING, R24, R49, R176, R201: the supply warning input goes active. -/
  | supplyWarning
  /-- SUPPLY_WARNING_RELEASE, R24: the warning input goes inactive without the supply failing, `elapsed` ticks after the warning (the clock ran on, R43). -/
  | supplyWarningRelease (elapsed : Nat)
  /-- TICK, R43: one tick of the timebase, with the levels the panic, occupancy and calibration switch inputs are sampled at. -/
  | tick (panic occupied switchOpen : Bool)
  /-- RESUME_WINDOW_EXPIRY, R11: the resume window takes its last tick and closes. -/
  | resumeWindowExpiry
  /-- UNMETERED_EVENT, R23, R41: the usable edges of the tick in progress bring the unmetered distance to 200 m. -/
  | unmeteredEvent
  /-- WHEEL_EDGE, R44, R47: the wheel sensor inputs are now at the levels `a` and `b`. -/
  | wheelEdge (a b : Bool)
  /-- SENSOR_FAULT, R45: the phase error that brings the window to 16. -/
  | sensorFault
  /-- MINUTE_CHANGE, R50: the clock takes the tick that begins a minute. -/
  | minuteChange
  /-- CLOCK_DAY_RANGE_END, R50: the clock takes the tick at which the day number would pass 65,535. -/
  | clockDayRangeEnd
  /-- PANIC_RAISE, R54: the fifth consecutive active panic sample in ARMED. -/
  | panicRaise
  /-- PANIC_REARM, R54: the fifth consecutive inactive panic sample in LATCHED. -/
  | panicRearm
  /-- OCCUPANCY_LEVEL_CHANGE, R55: the tenth consecutive differing occupancy sample. -/
  | occupancyLevelChange
  /-- CALIBRATION_SWITCH_CHANGE, R59: the fifth consecutive differing switch sample. -/
  | calibrationSwitchChange
  /-- SHIFT_OPEN, R3. -/
  | shiftOpen (tag : Byte) (body : List Byte)
  /-- HIRE, R4. -/
  | hire (tag : Byte) (body : List Byte)
  /-- STOP, R10. -/
  | stop (tag : Byte) (body : List Byte)
  /-- RESUME, R11. -/
  | resume (tag : Byte) (body : List Byte)
  /-- CLEAR, R13. -/
  | clear (tag : Byte) (body : List Byte)
  /-- SHIFT_CLOSE, R16. -/
  | shiftClose (tag : Byte) (body : List Byte)
  /-- ADD_EXTRA, R12. -/
  | addExtra (tag : Byte) (body : List Byte)
  /-- METER_READ, R18. -/
  | meterRead (tag : Byte) (body : List Byte)
  /-- TOTALS_READ, R19. -/
  | totalsRead (tag : Byte) (body : List Byte)
  /-- TARIFF_BEGIN, R60. -/
  | tariffBegin (tag : Byte) (body : List Byte)
  /-- TARIFF_ITEM_SET_CALIBRATION, R63: TARIFF_ITEM, the fields from byte 2 of its body. -/
  | tariffItemSetCalibration (tag : Byte) (fields : List Byte)
  /-- TARIFF_ITEM_SET_TARIFF, R63: TARIFF_ITEM, the fields from byte 2 of its body. -/
  | tariffItemSetTariff (tag : Byte) (fields : List Byte)
  /-- TARIFF_ITEM_REMOVE_TARIFF, R63: TARIFF_ITEM, the fields from byte 2 of its body. -/
  | tariffItemRemoveTariff (tag : Byte) (fields : List Byte)
  /-- TARIFF_ITEM_SET_DEFAULT, R63: TARIFF_ITEM, the fields from byte 2 of its body. -/
  | tariffItemSetDefault (tag : Byte) (fields : List Byte)
  /-- BAND_ADD, R64: TARIFF_ITEM, the fields from byte 2 of its body. -/
  | bandAdd (tag : Byte) (fields : List Byte)
  /-- BAND_REMOVE, R64: TARIFF_ITEM, the fields from byte 2 of its body. -/
  | bandRemove (tag : Byte) (fields : List Byte)
  /-- SCHEDULE_CLEAR, R64: TARIFF_ITEM, the fields from byte 2 of its body. -/
  | scheduleClear (tag : Byte) (fields : List Byte)
  /-- TARIFF_ITEM_SET_SUPPLEMENT, R63: TARIFF_ITEM, the fields from byte 2 of its body. -/
  | tariffItemSetSupplement (tag : Byte) (fields : List Byte)
  /-- TARIFF_ITEM_REMOVE_SUPPLEMENT, R63: TARIFF_ITEM, the fields from byte 2 of its body. -/
  | tariffItemRemoveSupplement (tag : Byte) (fields : List Byte)
  /-- TARIFF_ITEM_SET_DECIMALS, R63: TARIFF_ITEM, the fields from byte 2 of its body. -/
  | tariffItemSetDecimals (tag : Byte) (fields : List Byte)
  /-- TARIFF_ITEM_SET_IDENTITY, R63: TARIFF_ITEM, the fields from byte 2 of its body. -/
  | tariffItemSetIdentity (tag : Byte) (fields : List Byte)
  /-- TARIFF_COMMIT, R66. -/
  | tariffCommit (tag : Byte) (body : List Byte)
  /-- TARIFF_ABANDON, R67. -/
  | tariffAbandon (tag : Byte) (body : List Byte)
  /-- TARIFF_READ, R68. -/
  | tariffRead (tag : Byte) (body : List Byte)
  /-- CLOCK_SET, R52. -/
  | clockSet (tag : Byte) (body : List Byte)
  /-- POSITION, R56. -/
  | position (tag : Byte) (body : List Byte)
  /-- RESCAN, R92. -/
  | rescan (tag : Byte) (body : List Byte)
  /-- ACCEPT, R130. -/
  | accept (tag : Byte) (body : List Byte)
  /-- DECLINE, R131. -/
  | decline (tag : Byte) (body : List Byte)
  /-- NOSHOW, R137. -/
  | noshow (tag : Byte) (body : List Byte)
  /-- OFFER_LIST, R142. -/
  | offerList (tag : Byte) (body : List Byte)
  /-- BOOK, R143. -/
  | book (tag : Byte) (body : List Byte)
  /-- UNBOOK, R146. -/
  | unbook (tag : Byte) (body : List Byte)
  /-- MAIL_LIST, R154. -/
  | mailList (tag : Byte) (body : List Byte)
  /-- MAIL_READ, R155. -/
  | mailRead (tag : Byte) (body : List Byte)
  /-- MAIL_REPLY, R157. -/
  | mailReply (tag : Byte) (body : List Byte)
  /-- MAIL_DELETE, R159. -/
  | mailDelete (tag : Byte) (body : List Byte)
  /-- SEND_TEXT, R160. -/
  | sendText (tag : Byte) (body : List Byte)
  /-- EMERGENCY_RAISE, R164. -/
  | emergencyRaise (tag : Byte) (body : List Byte)
  /-- EMERGENCY_CANCEL, R172. -/
  | emergencyCancel (tag : Byte) (body : List Byte)
  /-- SIGN_LOAD, R182. -/
  | signLoad (tag : Byte) (body : List Byte)
  /-- SIGN_BLANK, R183. -/
  | signBlank (tag : Byte) (body : List Byte)
  /-- SIGN_READ, R184. -/
  | signRead (tag : Byte) (body : List Byte)
  /-- STATUS, R195. -/
  | status (tag : Byte) (body : List Byte)
  /-- SET_CONFIG_ARBITRATION_MODE, R106, R196: SET_CONFIG, the value after the item code. -/
  | setConfigArbitrationMode (tag : Byte) (value : List Byte)
  /-- SET_CONFIG_COVERT, R175, R196: SET_CONFIG, the value after the item code. -/
  | setConfigCovert (tag : Byte) (value : List Byte)
  /-- SET_CONFIG_TRACK_INTERVAL, R169, R196: SET_CONFIG, the value after the item code. -/
  | setConfigTrackInterval (tag : Byte) (value : List Byte)
  /-- SET_CONFIG_ACCEPTANCE_LIST, R91, R196: SET_CONFIG, the value after the item code. -/
  | setConfigAcceptanceList (tag : Byte) (value : List Byte)
  /-- SET_CONFIG_SENSOR_MODE, R47, R196: SET_CONFIG, the value after the item code. -/
  | setConfigSensorMode (tag : Byte) (value : List Byte)
  /-- SET_CONFIG_OCCUPANCY_CHECK, R23, R196: SET_CONFIG, the value after the item code. -/
  | setConfigOccupancyCheck (tag : Byte) (value : List Byte)
  /-- SET_CONFIG_LAMP_POLARITY, R180, R196: SET_CONFIG, the value after the item code. -/
  | setConfigLampPolarity (tag : Byte) (value : List Byte)
  /-- GET_CONFIG, R197. -/
  | getConfig (tag : Byte) (body : List Byte)
  /-- IDENTIFY, R198. -/
  | identify (tag : Byte) (body : List Byte)
  /-- RESET, R199. -/
  | reset (tag : Byte) (body : List Byte)
  /-- TAG_ZERO_REQUEST, R191: a request frame with tag 0. -/
  | tagZeroRequest (kind : Byte) (body : List Byte)
  /-- UNKNOWN_KIND_REQUEST, R191: a request frame whose kind is given as it stands. -/
  | unknownKindRequest (kind tag : Byte) (body : List Byte)
  /-- FRAME_RECEIVED, R188, R189: the bytes of a frame arrive on the line, start byte to CRC. -/
  | frameReceived (bytes : List Byte)
  /-- FRAME_LENGTH_OVERSIZE, R189: the body length byte of a frame arrives. -/
  | frameLengthOversize (length : Byte)
  /-- FRAME_GAP_TIMEOUT, R188: the receiver takes the second tick in a row without a byte. -/
  | frameGapTimeout
  /-- TRANSMIT_COMPLETE, R193: the last byte of the frame in the transmitter has gone. -/
  | transmitComplete
  /-- CYCLE_START, R75: the radio port reports a cycle start. -/
  | cycleStart
  /-- HEADER_PART, R75: a downlink block arrives where a header part may stand, its 24 bytes. -/
  | headerPart (block : List Byte)
  /-- LOGON_BACKOFF_END, R82: the logon backoff found at 0 by an OWN header ends. -/
  | logonBackoffEnd
  /-- BACKOFF_END, R105: the backoff of the entry with this order number, found at 0 by an OWN header, ends. -/
  | backoffEnd (order : Nat)
  /-- REASSEMBLY_TIMEOUT, R151: the header count of this buffer has reached 8. -/
  | reassemblyTimeout (buffer : BufferId)
  /-- UPLINK_PHASE_START, R107: the uplink phase of the cycle begins. -/
  | uplinkPhaseStart
  /-- SLOT_EMERGENCY, R118: the time of slot 0. -/
  | slotEmergency
  /-- SLOT_CONTENTION, R108: the time of the planned contention slot. -/
  | slotContention
  /-- SLOT_GRANTED, R111, R120: the time of a granted slot. -/
  | slotGranted (slot : Nat)
  /-- SLOT_POLLED, R117, R120: the time of a polled slot. -/
  | slotPolled (slot : Nat)
  /-- ACCOUNTING_HOLD_END, R115: the held accounting entry takes its last tick. -/
  | accountingHoldEnd
  /-- HEADER_LOSS_TIMEOUT, R85: the header loss timer takes the tick that brings it to 300. -/
  | headerLossTimeout
  /-- LOST_PERIOD_EXPIRY, R87: the LOST period takes the tick that brings it to 1,200. -/
  | lostPeriodExpiry
  /-- HOLD_TIMER_EXPIRY, R83: the LOGON_HOLD timer takes its last tick. -/
  | holdTimerExpiry
  /-- ASSIGN, R84. -/
  | assign (dest : DownAddr) (identity address : Nat)
  /-- BAR, R88. -/
  | bar (dest : DownAddr) (identity : Nat)
  /-- UNBAR, R89. -/
  | unbar (dest : DownAddr) (identity : Nat)
  /-- NETWORK_RESET, R90. -/
  | networkReset (dest : DownAddr)
  /-- DOWNLINK_BLOCK_DISCARDED, R93, R75: a downlink block, its 24 bytes, that no block of the part takes. -/
  | downlinkBlockDiscarded (block : List Byte)
  /-- OFFER, R126, R127. -/
  | offer (dest : DownAddr) (job : Nat) (forward : Bool) (pickup window price : Nat)
  /-- OFFER_DETAIL, R128. -/
  | offerDetail (dest : DownAddr) (job part : Nat) (chars : List Byte)
  /-- AWARD, R133, R134. -/
  | award (dest : DownAddr) (job : Nat)
  /-- WITHDRAW, R135. -/
  | withdraw (dest : DownAddr) (job : Nat)
  /-- JOB_CANCEL, R136. -/
  | jobCancel (dest : DownAddr) (job : Nat)
  /-- ZONE_POSITION, R144. -/
  | zonePosition (dest : DownAddr) (zone position : Nat)
  /-- TEXT_PART, R148. -/
  | textPart (dest : DownAddr) (part : TextPart)
  /-- EMERGENCY_ACK, R168. -/
  | emergencyAck (dest : DownAddr) (identity : Option Nat) (raise : Nat)
  /-- EMERGENCY_CLEAR, R170. -/
  | emergencyClear (dest : DownAddr) (identity : Option Nat) (raise : Nat)
  /-- CANCEL_LIMIT, R173: the tenth EMERGENCY_CANCEL block goes. -/
  | cancelLimit
  /-- CANCEL_WINDOW_EXPIRY, R171: the cancel window takes its last tick. -/
  | cancelWindowExpiry
  /-- TRACK_TIMER_EXPIRY, R169: the track timer takes its last tick. -/
  | trackTimerExpiry
  /-- OFFER_WINDOW_EXPIRY, R129: the window of this OFFERED entry takes its last tick. -/
  | offerWindowExpiry (job : Nat)
  /-- AWARD_DEADLINE_EXPIRY, R132: the award deadline of this entry takes its last tick. -/
  | awardDeadlineExpiry (job : Nat)
  /-- ANSWER_TIMER_EXPIRY, R145: the booking answer timer takes its last tick. -/
  | answerTimerExpiry
  /-- DISPLAY_RECORD_SENT, R186: the display output has sent its record. -/
  | displayRecordSent
  /-- FRAME_START, R188: a byte equal to the start byte arrives. -/
  | frameStart
  /-- FLASH_CLOCK, R180: the flash clock reaches a half-period point. -/
  | flashClock
deriving DecidableEq, Repr

end Sys2Proof
end

