-- ==== Sys2Proof/Machine/State.lean ====
section
/-! DEFINITION. The state of the part as plain data: one structure per block of the manual's block table (00_scope), the
queue of commands that wait, and the reasons a step could stop. -/

namespace Sys2Proof.Machine

open Sys2Proof

/-! ### Times and positions -/

/-- The calendar clock's reading: day number and second of day (03, The calendar clock). -/
structure Reading where
  day : Nat
  second : Nat
deriving DecidableEq, Repr

/-- A SET clock: its reading and the tick within the second (03, The calendar clock). -/
structure ClockTime where
  day : Nat
  second : Nat
  tick : Nat
deriving DecidableEq, Repr

/-- The calendar clock: `time` is none while it is UNSET. -/
structure Calendar where
  time : Option ClockTime
  holiday : Bool
deriving DecidableEq, Repr

/-- The quality of a held fix (R56). -/
inductive Quality where
  | twoD
  | threeD
deriving DecidableEq, Repr

/-- A fix of the position fix record (R56, R57); its age is in ticks. -/
structure Fix where
  latitude : Int
  longitude : Int
  quality : Quality
  time : Option Reading
  age : Nat
deriving DecidableEq, Repr

/-- A start or end position of a trip record (R5, R14). -/
structure Position where
  latitude : Int
  longitude : Int
deriving DecidableEq, Repr

/-- What a block that reads the fix record receives (R57). -/
structure FixReport where
  latitude : Int
  longitude : Int
  quality : Quality
  time : Option Reading
  age : Nat
  stale : Bool
deriving DecidableEq, Repr

/-- The position an EMERGENCY or a TRACK carries: latitude, longitude, quality, fix time and the mark STALE, without the
age (R166, R169). -/
structure SentPosition where
  latitude : Int
  longitude : Int
  quality : Quality
  time : Option Reading
  stale : Bool
deriving DecidableEq, Repr

/-! ### Vehicle Inputs -/

/-- The sensor mode item (R44, R47). -/
inductive SensorMode where
  | quadrature
  | single
deriving DecidableEq, Repr

/-- The levels of the vehicle inputs as last presented (00_scope, The vehicle). -/
structure Pins where
  a : Bool
  b : Bool
  panic : Bool
  occupied : Bool
  switchOpen : Bool
  supplyWarning : Bool
deriving DecidableEq, Repr

/-- The panic debounce (R54): LATCHED or ARMED, with a count 0..4. -/
structure PanicDebounce where
  latched : Bool
  count : Nat
deriving DecidableEq, Repr

/-- The occupancy signal (R55): the taken level, with a count 0..9. -/
structure Occupancy where
  taken : Bool
  count : Nat
deriving DecidableEq, Repr

/-- The occupancy count (R23, R41): unmetered distance 0..200 m, its residue, the stopped mark, and the metres by which
the last conversion went beyond 200, kept until the count resets. -/
structure OccupancyCount where
  distance : Nat
  residue : Nat
  stopped : Bool
  beyond : Nat
deriving DecidableEq, Repr

/-- Vehicle Inputs (03). The sensor mode stands among the configuration items. -/
structure Vehicle where
  pairA : Bool
  pairB : Bool
  forward : Nat
  reverse : Nat
  debt : Nat
  phaseErrors : List Nat
  fault : Bool
  implausible : Bool
  calendar : Calendar
  panic : PanicDebounce
  occupancy : Occupancy
  unmetered : OccupancyCount
  fix : Option Fix
deriving DecidableEq, Repr

/-! ### Tariff Store -/

/-- The mode of a tariff (02): S, the larger of distance or time; D, both. -/
inductive TariffMode where
  | s
  | d
deriving DecidableEq, Repr

/-- One tariff's parameters (02, Derived step sizes). -/
structure Tariff where
  mode : TariffMode
  flagFall : Nat
  d0 : Nat
  t0 : Nat
  stepAmount : Nat
  ds : Nat
  ts : Nat
deriving DecidableEq, Repr

/-- The derived step sizes of a tariff (R27). -/
structure Derived where
  np : Nat
  nt : Nat
  theta : Nat
  np0 : Nat
  nt0 : Nat
  theta0 : Nat
deriving DecidableEq, Repr

/-- A band of the schedule (R64). `days` has bit 0 for Monday through bit 6 for Sunday and bit 7 for HOLIDAY. -/
structure Band where
  days : Byte
  start : Nat
  tariff : Nat
deriving DecidableEq, Repr

/-- A supplement (04, The tariff set). -/
structure Supplement where
  amount : Nat
  label : Nat
deriving DecidableEq, Repr

/-- The installation identity (04, The tariff set). -/
structure Identity where
  cab : Nat
  fleet : Nat
deriving DecidableEq, Repr

/-- A tariff set in force (04, The tariff set): four places for tariffs 1..4, eight for supplements 0..7. -/
structure TariffSet where
  k : Nat
  tariffs : List (Option Tariff)
  default : Nat
  schedule : List Band
  supplements : List (Option Supplement)
  decimals : Nat
  identity : Identity
deriving DecidableEq, Repr

/-- A staging set (R60): k, the default and the identity may be absent. -/
structure Staging where
  k : Option Nat
  tariffs : List (Option Tariff)
  default : Option Nat
  schedule : List Band
  supplements : List (Option Supplement)
  decimals : Nat
  identity : Option Identity
deriving DecidableEq, Repr

/-- The calibration switch (R59): the taken state, with a count 0..4. -/
structure CalSwitch where
  isOpen : Bool
  count : Nat
deriving DecidableEq, Repr

/-- The eight lifetime totals (R72). -/
structure Lifetime where
  totalMetres : Nat
  hiredMetres : Nat
  trips : Nat
  fareSum : Nat
  extrasSum : Nat
  switchOpenings : Nat
  powerInterruptions : Nat
  recordsLost : Nat
deriving DecidableEq, Repr

/-- The Tariff Store (04). `load` is none in IDLE and the staging set in LOADING. -/
structure TariffStore where
  inForce : Option TariffSet
  derived : List (Option Derived)
  revision : Nat
  load : Option Staging
  scheduled : Option Nat
  switch : CalSwitch
  lifetime : Lifetime
  totalResidue : Nat
  hiredResidue : Nat
deriving DecidableEq, Repr

/-! ### Fare Meter -/

/-- The meter state (01, Meter states). -/
inductive MeterState where
  | uncalibrated
  | offDuty
  | forHire
  | hired
  | stopped
deriving DecidableEq, Repr

/-- The phase of a trip (R5, R31). -/
inductive Phase where
  | initial
  | normal
deriving DecidableEq, Repr

/-- The trip flags (R8). -/
structure TripFlags where
  fareCapped : Bool
  extrasCapped : Bool
  sensorFault : Bool
  distanceImplausible : Bool
  powerInterrupted : Bool
  fixedPrice : Bool
  jobCancelled : Bool
deriving DecidableEq, Repr

/-- The tariffs-used set of a trip, one flag per tariff 1..4 (R5). -/
structure UsedSet where
  one : Bool
  two : Bool
  three : Bool
  four : Bool
deriving DecidableEq, Repr

/-- The trip context (R5). -/
structure Trip where
  number : Nat
  start : Option Reading
  startPosition : Option Position
  tariff : Nat
  used : UsedSet
  phase : Phase
  accumulator : Nat
  pendingTariff : Option Nat
  fare : Nat
  extras : Nat
  hiredEdges : Nat
  hiredTicks : Nat
  fixedPrice : Option Nat
  job : Option Nat
  stop : Option Reading
  flags : TripFlags
deriving DecidableEq, Repr

/-- The shift totals, with their two residues (R15). -/
structure Shift where
  number : Nat
  opened : Option Reading
  trips : Nat
  totalMetres : Nat
  hiredMetres : Nat
  fareTotal : Nat
  extrasTotal : Nat
  unmetered : Nat
  emergencies : Nat
  totalResidue : Nat
  hiredResidue : Nat
deriving DecidableEq, Repr

/-- The Fare Meter (01). `window` is the resume window's ticks, 0 when it is closed (R11, R18). `replaced` is the tariff that
an installation at the last tick took out of force, until the next tick, the next evaluation or a STOP: an evaluation that
names it came together with that tick and was taken second (R36, log 41). -/
structure Meter where
  state : MeterState
  trip : Option Trip
  shift : Option Shift
  lastShift : Nat
  window : Nat
  replaced : Option Nat
deriving DecidableEq, Repr

/-! ### Trip Store -/

/-- A trip record (R14). -/
structure TripRecord where
  trip : Nat
  job : Option Nat
  start : Option Reading
  stop : Option Reading
  startPosition : Option Position
  endPosition : Option Position
  revision : Nat
  used : UsedSet
  fare : Nat
  extras : Nat
  hiredMetres : Nat
  hiredSeconds : Nat
  flags : TripFlags
deriving DecidableEq, Repr

/-- A shift record (R16). -/
structure ShiftRecord where
  shift : Nat
  opened : Option Reading
  closed : Option Reading
  trips : Nat
  totalMetres : Nat
  hiredMetres : Nat
  fareTotal : Nat
  extrasTotal : Nat
  unmetered : Nat
  emergencies : Nat
  recordsLost : Nat
deriving DecidableEq, Repr

/-- What an accounting record holds beside its number. -/
inductive RecordBody where
  | trip (r : TripRecord)
  | shift (r : ShiftRecord)
deriving DecidableEq, Repr

/-- The delivery mark of a record (01, Trip Store). -/
inductive Mark where
  | waiting
  | inFlight
  | held
deriving DecidableEq, Repr

/-- A record in the Trip Store. -/
structure Stored where
  number : Nat
  body : RecordBody
  mark : Mark
deriving DecidableEq, Repr

/-- The Trip Store (R20). `next` is the next record number; 4,294,967,296 once the last number has been used. -/
structure TripStore where
  records : List Stored
  next : Nat
deriving DecidableEq, Repr

/-! ### Channel Controller -/

/-- The registration states (05). -/
inductive RegState where
  | searching
  | logonWait
  | logonHold
  | registered
  | lost
  | barred
  | incompatible
deriving DecidableEq, Repr

/-- An entry of the grant list (R76). -/
structure Grant where
  address : Nat
  first : Nat
  count : Nat
deriving DecidableEq, Repr

/-- An entry of the acknowledgement list (R76). -/
structure Ack where
  address : Nat
  seq : Nat
deriving DecidableEq, Repr

/-- An entry of the poll list (R76). -/
structure Poll where
  address : Nat
  slot : Nat
deriving DecidableEq, Repr

/-- The fields of a header (R76). -/
structure Header where
  network : Nat
  level : Nat
  cycle : Nat
  day : Nat
  second : Nat
  holiday : Bool
  slots : Nat
  contention : Nat
  grants : List Grant
  acks : List Ack
  polls : List Poll
deriving DecidableEq, Repr

/-- The cycle view (R78): the header, the mark OWN, and the cab's short address for use in this cycle. -/
structure CycleView where
  header : Header
  own : Bool
  address : Option Nat
deriving DecidableEq, Repr

/-- How far the header of the current cycle has come (R75): no cycle yet, the parts taken so far, or its outcome. -/
inductive HeaderRx where
  | none
  | collecting (parts : List (List Byte))
  | intact
  | damaged
deriving DecidableEq, Repr

/-- The kind of a logon record (05). -/
inductive LogonKind where
  | logon
  | resume
deriving DecidableEq, Repr

/-- The wait state of a logon record (R81, R82): handed to the Uplink Queue, sent in a cycle, in backoff with a count,
or with a backoff that an OWN header found at 0 and that has yet to end (log 9). -/
inductive LogonWait where
  | handed
  | sent (cycle : Nat)
  | backoff (count : Nat)
  | backoffDue
deriving DecidableEq, Repr

/-- The logon record (05). -/
structure Logon where
  kind : LogonKind
  attempt : Nat
  wait : LogonWait
deriving DecidableEq, Repr

/-- The Channel Controller (05). `lostPeriod` is none while the LOST period is stopped; `lastIntact` is the network id
of the last intact header and `lastAccepted` whether the acceptance list held it when that header was judged (R91, R93);
`loggedOnAs` is the identity the cab last logged on or resumed with (R96). -/
structure Channel where
  reg : RegState
  address : Option Nat
  network : Option Nat
  view : Option CycleView
  headerRx : HeaderRx
  lastIntact : Option Nat
  lastAccepted : Bool
  logon : Option Logon
  loggedOnAs : Option Identity
  lossTimer : Nat
  lostPeriod : Option Nat
  holdTimer : Nat
deriving DecidableEq, Repr

/-! ### The zone booking, shared by the Offer Table and the STATUS entry -/

/-- The zone booking record (07). -/
inductive Booking where
  | none
  | pending (zone : Nat)
  | booked (zone position : Nat)
deriving DecidableEq, Repr

/-! ### Uplink Queue -/

/-- The reasons of a DECLINE (R131, R133, R134). -/
inductive DeclineReason where
  | driver
  | capacity
  | notHeld
deriving DecidableEq, Repr

/-- A queue message: its kind with its reference (R98). -/
inductive Msg where
  | bid (job : Nat)
  | decline (job : Nat) (reason : DeclineReason)
  | noshow (job : Nat)
  | tripRecord (record : Nat)
  | shiftRecord (record : Nat)
  | status
  | text (outbound : Nat) (chars : List Byte)
  | cannedReply (mail code : Nat)
  | readReceipt (mail : Nat)
deriving DecidableEq, Repr

/-- The state of an entry (R98). `backoffDue` is a backoff that an OWN header found at 0 and that has yet to end
(R105, log 9). -/
inductive EntryState where
  | waiting
  | backoff (count : Nat)
  | backoffDue
  | inFlight
  | held (ticks : Nat)
deriving DecidableEq, Repr

/-- An entry of the Uplink Queue (R98). `order` is its order number; `serial` is the model's own count of the entries
made, which names the entry and, unlike the order number, never comes round again (log 17). `carried` is the booking a
STATUS carried at its last transmission (R145). -/
structure Entry where
  msg : Msg
  order : Nat
  serial : Nat
  seq : Option Nat
  attempts : Nat
  state : EntryState
  unmetered : Bool
  carried : Booking
deriving DecidableEq, Repr

/-- The phase of the in-flight message (R110 to R112). -/
inductive FlightPhase where
  | grantWait (cycle : Nat)
  | granted (first sent : Nat)
  | ackWait (cycle : Nat)
deriving DecidableEq, Repr

/-- The in-flight message: the entry it is, by serial, and its phase. -/
structure InFlight where
  serial : Nat
  phase : FlightPhase
deriving DecidableEq, Repr

/-- The arbitration mode item (R106). -/
inductive Arbitration where
  | fixed
  | rotating
deriving DecidableEq, Repr

/-- An EMERGENCY_TRACK as built when it is set in the lane (R169). -/
structure TrackReport where
  identity : Nat
  raiseNumber : Nat
  position : Option SentPosition
deriving DecidableEq, Repr

/-- The emergency lane (R118). -/
inductive Lane where
  | empty
  | emergency
  | cancel
  | track (report : TrackReport)
deriving DecidableEq, Repr

/-- What the plan puts in the cab's contention slot (R107). -/
inductive ContentionUse where
  | track
  | logon
  | entry (serial : Nat)
deriving DecidableEq, Repr

/-- The cycle plan (R107): whether slot 0 is still to come, the slots polled to the cab still to be answered, and the
contention slot with its use. The slots of a grant stand in the in-flight message. -/
structure Plan where
  slotZero : Bool
  polls : List Nat
  contention : Option (Nat × ContentionUse)
deriving DecidableEq, Repr

/-- The Uplink Queue (06). Its entries stand in the order they were made; `nextSerial` is the model's own (log 17). -/
structure Uplink where
  entries : List Entry
  nextOrder : Nat
  nextSerial : Nat
  inFlight : Option InFlight
  pointer : Nat
  nextSeq : Nat
  statusOwed : Bool
  accountingOwed : Bool
  unmeteredOwed : Bool
  lane : Lane
  plan : Option Plan
deriving DecidableEq, Repr

/-! ### Offer Table -/

/-- The origin of an offer (R126). -/
inductive Origin where
  | direct
  | zone (zone : Nat)
deriving DecidableEq, Repr

/-- The state of an entry, with what holds in it alone (R123): the window count in OFFERED and kept in BIDDING, bid
delivered and the award deadline in BIDDING, the role in AWARDED. -/
inductive OfferState where
  | offered
  | bidding (delivered : Bool) (deadline : Option Nat)
  | active (inTrip : Bool)
  | forward
deriving DecidableEq, Repr

/-- An entry of the Offer Table (R123). -/
structure Offer where
  job : Nat
  origin : Origin
  forward : Bool
  pickup : Option Nat
  window : Nat
  count : Nat
  price : Option Nat
  detail0 : Option (List Byte)
  detail1 : Option (List Byte)
  detail2 : Option (List Byte)
  state : OfferState
deriving DecidableEq, Repr

/-- The Offer Table with the zone booking record (07). -/
structure OfferTable where
  entries : List Offer
  history : List Nat
  booking : Booking
  lastTold : Booking
  answer : Option Nat
deriving DecidableEq, Repr

/-! ### Mailbox -/

/-- A part held by a PARTIAL buffer (R149). -/
structure HeldPart where
  index : Nat
  positions : List Byte
deriving DecidableEq, Repr

/-- A PARTIAL reassembly buffer (R149). -/
structure Partial where
  number : Nat
  cls : MsgClass
  count : Nat
  parts : List HeldPart
  codes : Option Nat
  headers : Nat
deriving DecidableEq, Repr

/-- The state of a mailbox message (R152). -/
inductive MailState where
  | unread
  | read
  | replied
deriving DecidableEq, Repr

/-- The receipt of a mailbox message (R156). -/
inductive Receipt where
  | none
  | pending
  | queued
  | delivered
  | failed
deriving DecidableEq, Repr

/-- The outcome of a reply (R157, R158). -/
inductive ReplyOutcome where
  | queued
  | delivered
deriving DecidableEq, Repr

/-- A message of the mailbox (R152). -/
structure Mail where
  number : Nat
  cls : MsgClass
  arrival : Option Reading
  text : List Byte
  codes : List Byte
  state : MailState
  receipt : Receipt
  reply : Option (Nat × ReplyOutcome)
deriving DecidableEq, Repr

/-- The Mailbox (08). An EMPTY buffer is none; `latest` is the buffer whose last part was taken later. -/
structure Mailbox where
  first : Option Partial
  second : Option Partial
  latest : BufferId
  mail : List Mail
  outbound : Nat
deriving DecidableEq, Repr

/-! ### Emergency Controller -/

/-- The emergency state (09). -/
inductive EmState where
  | quiet
  | raised
  | acknowledged
  | cancelling
deriving DecidableEq, Repr

/-- The emergency record (09). `track` is none while the track timer is stopped. -/
structure Emergency where
  state : EmState
  number : Nat
  time : Option Reading
  window : Nat
  alarmSent : Bool
  cancelSent : Nat
  track : Option Nat
deriving DecidableEq, Repr

/-! ### Sign and Display -/

/-- The lamp modes (R179). -/
inductive LampMode where
  | off
  | on
  | slow
  | fast
deriving DecidableEq, Repr

/-- An entry of the pattern table (R179). -/
structure Pattern where
  l1 : LampMode
  l2 : LampMode
  l3 : LampMode
  l4 : LampMode
deriving DecidableEq, Repr

/-- The four lamp polarities (R180); true is INVERTED. -/
structure Polarity where
  l1 : Bool
  l2 : Bool
  l3 : Bool
  l4 : Bool
deriving DecidableEq, Repr

/-- The passenger display record (R185). The state letter is the meter state's. -/
structure DisplayRecord where
  letter : MeterState
  tariff : Option Nat
  fare : Option Nat
  extras : Option Nat
  total : Bool
  decimals : Nat
deriving DecidableEq, Repr

/-- Sign and Display (10). `flash` is the flash clock, 0..7, in units of 125 ms. -/
structure Sign where
  table : List Pattern
  blank : Bool
  selected : Nat
  flash : Nat
  last : Option DisplayRecord
  sending : Option DisplayRecord
  waiting : Option DisplayRecord
deriving DecidableEq, Repr

/-! ### Host Link: configuration, replies and notices -/

/-- The stored configuration items (R196). -/
structure Items where
  arbitration : Arbitration
  covert : Bool
  trackInterval : Nat
  acceptance : List Nat
  sensorMode : SensorMode
  occupancyCheck : Bool
  polarity : Polarity
deriving DecidableEq, Repr

/-- One configuration item with its value (R197). -/
inductive Item where
  | arbitration (v : Arbitration)
  | covert (v : Bool)
  | trackInterval (v : Nat)
  | acceptance (v : List Nat)
  | sensorMode (v : SensorMode)
  | occupancyCheck (v : Bool)
  | polarity (v : Polarity)
deriving DecidableEq, Repr

/-- The result codes (R192). -/
inductive Result where
  | ok
  | unknownKind
  | malformed
  | outOfRange
  | wrongState
  | notPermitted
  | locked
  | sequence
  | stepRange
  | incomplete
  | queueFull
  | notFound
  | tooLate
  | onlyBase
deriving DecidableEq, Repr

/-- The indicators (R192). -/
inductive Indicator where
  | none
  | restarted
  | already
deriving DecidableEq, Repr

/-- The item a failing whole-set check names (R65, R28). -/
inductive CommitFault where
  | calibration
  | identity
  | default
  | band (index : Nat)
  | supplement (index : Nat)
  | np (tariff : Nat)
  | np0 (tariff : Nat)
deriving DecidableEq, Repr

/-- What METER_READ reports of the trip (R18). -/
structure TripReport where
  number : Nat
  tariff : Nat
  used : UsedSet
  phase : Phase
  pendingTariff : Option Nat
  fare : Nat
  extras : Nat
  hiredMetres : Nat
  hiredSeconds : Nat
  fixedPrice : Option Nat
  job : Option Nat
  flags : TripFlags
  window : Nat
  stop : Option Reading
deriving DecidableEq, Repr

/-- What TOTALS_READ reports of the shift: every field but the residues (R19). -/
structure ShiftReport where
  number : Nat
  opened : Option Reading
  trips : Nat
  totalMetres : Nat
  hiredMetres : Nat
  fareTotal : Nat
  extrasTotal : Nat
  unmetered : Nat
  emergencies : Nat
deriving DecidableEq, Repr

/-- What TARIFF_READ returns (R68). -/
inductive TariffItem where
  | summary (revision : Nat) (tariffs supplements : List Bool) (k default : Option Nat) (bands decimals : Nat) (loading : Bool)
  | calibration (k : Nat)
  | tariff (t : Tariff) (sizes : Option (Nat × Nat × Nat × Nat))
  | default (n : Nat)
  | band (b : Band)
  | supplement (s : Supplement)
  | decimals (n : Nat)
  | identity (i : Identity)
deriving DecidableEq, Repr

/-- The state of an entry as OFFER_LIST names it (R142). -/
inductive OfferStateName where
  | offered
  | bidding
  | awarded
deriving DecidableEq, Repr

/-- The role of an AWARDED entry (R123). -/
inductive Role where
  | active
  | forward
deriving DecidableEq, Repr

/-- One entry in an OFFER_LIST reply (R142); times in whole seconds, rounded up. -/
structure OfferLine where
  job : Nat
  origin : Origin
  forward : Bool
  pickup : Option Nat
  state : OfferStateName
  role : Option Role
  inTrip : Bool
  window : Nat
  delivered : Bool
  deadline : Option Nat
  price : Option Nat
  detailLength : Nat
deriving DecidableEq, Repr

/-- One message in a MAIL_LIST reply (R154). -/
structure MailLine where
  number : Nat
  cls : MsgClass
  state : MailState
  arrival : Option Reading
  textLength : Nat
  codes : List Byte
  receipt : Receipt
  reply : Option (Nat × ReplyOutcome)
deriving DecidableEq, Repr

/-- The eight sticky conditions (R194). -/
structure Sticky where
  linkOverrun : Bool
  noticeLost : Bool
  sensorFault : Bool
  distanceImplausible : Bool
  loadAborted : Bool
  mailDropped : Bool
  powerInterrupted : Bool
  recordDisplaced : Bool
deriving DecidableEq, Repr

/-- The STATUS reply (R195). -/
structure StatusReply where
  meter : MeterState
  reg : RegState
  address : Option Nat
  emergency : EmState
  switchOpen : Bool
  clockSet : Bool
  booking : Booking
  crcErrors : Nat
  queueFill : Nat
  storeFill : Nat
  unread : Nat
  sticky : Sticky
deriving DecidableEq, Repr

/-- The data of a reply, as the owner's rule names it. -/
inductive ReplyData where
  | none
  | shiftNumber (n : Nat)
  | fareExtras (fare extras : Nat)
  | extras (n : Nat)
  | recordNumber (n : Nat)
  | meter (state : MeterState) (shift : Option Nat) (trip : Option TripReport)
  | totals (lifetime : Lifetime) (shift : Option ShiftReport)
  | revision (n : Nat)
  | commitFault (f : CommitFault)
  | tariffItem (i : TariffItem)
  | clock (r : Option Reading)
  | regBefore (r : RegState)
  | declineQueued (b : Bool)
  | offerList (booking : Booking) (entries : List OfferLine)
  | offerOne (entry : OfferLine) (text : List Byte)
  | mailList (partials : Nat) (mail : List MailLine)
  | mailText (cls : MsgClass) (arrival : Option Reading) (text codes : List Byte)
  | outbound (n : Nat)
  | raised (number : Nat) (time : Option Reading)
  | raise (state : EmState) (number : Nat) (time : Option Reading)
  | emState (s : EmState)
  | selected (n : Nat)
  | blank (flag : Bool) (selected : Nat)
  | sign (table : List Pattern) (blank : Bool) (polarity : Polarity) (selected : Nat)
  | status (r : StatusReply)
  | items (l : List Item)
  | identify (revision : Nat) (identity : Identity) (tariffRevision : Nat)
deriving DecidableEq, Repr

/-- A reply (R192): the kind of its request, the tag, the result, the indicator and the owner's data. It is sent under that
kind marked as a reply, with the codes of its result and indicator first in its body (`Reply.front`). -/
structure Reply where
  kind : Byte
  tag : Byte
  result : Result
  indicator : Indicator
  data : ReplyData
deriving DecidableEq, Repr

/-- The causes of STARTED (R199, R200). -/
inductive StartCause where
  | powerOn
  | powerOnTripSaved
  | hostReset
deriving DecidableEq, Repr

/-- The causes of REGISTRATION (R95). -/
inductive RegCause where
  | header
  | assign
  | loss
  | period
  | hold
  | bar
  | unbar
  | networkReset
  | rescan
  | hostReset
  | identity
deriving DecidableEq, Repr

/-- The causes of an OFFER notice (R127, R128). -/
inductive OfferCause where
  | new
  | replaced
  | detail
deriving DecidableEq, Repr

/-- The reasons of a removal (R124). -/
inductive RemovalReason where
  | expired
  | displaced
  | declined
  | noAnswer
  | notDelivered
  | capacity
  | notBid
  | lost
  | cancelled
  | noshow
  | meterHired
  | offDuty
  | completed
  | coverage
  | barred
  | emergency
deriving DecidableEq, Repr

/-- The causes of a ZONE notice (R144 to R146). -/
inductive ZoneCause where
  | position
  | refused
  | noAnswer
  | hire
  | offDuty
  | coverage
  | barred
  | emergency
deriving DecidableEq, Repr

/-- The causes of an EMERGENCY notice other than PANIC (R168, R174, R177). -/
inductive EmCause where
  | ack
  | clear
  | cancelLimit
  | restored
deriving DecidableEq, Repr

/-- The notices (R193), with what each carries. Each is sent under its kind's code and tag 0 (`Notice.front`). -/
inductive Notice where
  | started (cause : StartCause) (meter : MeterState) (reg : RegState) (tariffRevision partRevision : Nat)
  | registration (reg : RegState) (address network : Option Nat) (cause : RegCause)
  | delivered (msg : Msg) (seq : Option Nat)
  | failed (msg : Msg) (seq : Option Nat) (held : Bool)
  | offer (cause : OfferCause) (entry : Offer)
  | offerRemoved (job : Nat) (reason : RemovalReason) (queued : Option Bool)
  | jobAwarded (job : Nat) (role : Role)
  | jobPromoted (job : Nat)
  | jobNotHeld (job : Nat) (queued : Bool)
  | zone (booking : Booking) (cause : ZoneCause)
  | newMail (number : Nat) (cls : MsgClass) (textLength codes : Nat)
  | mailEvicted (number : Nat) (cls : MsgClass) (state : MailState)
  | emergencyPanic (state : EmState) (number : Nat) (time : Option Reading)
  | emergency (cause : EmCause) (state : EmState) (number : Nat)
  | switch (isOpen : Bool)
  | loadAborted
  | sensorFault
  | distanceImplausible
  | unmetered
deriving DecidableEq, Repr

/-- A checked request frame (R190). -/
structure Frame where
  kind : Byte
  tag : Byte
  body : List Byte
deriving DecidableEq, Repr

/-- The receiver (R188): the bytes of the frame in progress, none of them in HUNTING, the gap count, and whether a byte
has arrived since the last tick. -/
structure Receiver where
  bytes : List Byte
  gap : Nat
  byteSeen : Bool
deriving DecidableEq, Repr

/-- The transmitter (R193). -/
inductive Transmitter where
  | idle
  | reply (r : Reply)
  | notice (n : Notice)
deriving DecidableEq, Repr

/-- The request in hand (R191). -/
structure InHand where
  kind : Byte
  tag : Byte
deriving DecidableEq, Repr

/-- The Host Link (11). The configuration items stand apart, in `Items`. -/
structure Link where
  rx : Receiver
  input : List Frame
  inHand : Option InHand
  notices : List Notice
  tx : Transmitter
  replyWaiting : Option Reply
  crcErrors : Nat
  sticky : Sticky
  accepting : Bool
deriving DecidableEq, Repr

/-! ### What leaves by radio -/

/-- The content of an EMERGENCY block (R166). -/
structure EmergencyReport where
  identity : Nat
  raiseNumber : Nat
  position : Option SentPosition
  meter : MeterState
  fareExtras : Option (Nat × Nat)
  job : Option Nat
deriving DecidableEq, Repr

/-- The content of a STATUS block (R100). -/
structure StatusBlock where
  meter : MeterState
  fareExtras : Option (Nat × Nat)
  booking : Booking
  unmetered : Bool
deriving DecidableEq, Repr

/-- The content of an uplink block, by kind (12, The uplink block). -/
inductive Content where
  | logon (identity : Identity)
  | resume (cab : Nat) (address : Nat)
  | slotRequest (blocks : Nat)
  | emergency (r : EmergencyReport)
  | cancel (identity raiseNumber : Nat)
  | track (r : TrackReport)
  | bid (job : Nat)
  | decline (job : Nat) (reason : DeclineReason)
  | noshow (job : Nat)
  | tripRecord (bytes : List Byte)
  | shiftRecord (bytes : List Byte)
  | status (b : StatusBlock)
  | text (outbound : Nat) (chars : List Byte)
  | cannedReply (mail code : Nat)
  | readReceipt (mail : Nat)
deriving DecidableEq, Repr

/-- An uplink block as handed to the radio port (12, The uplink block): `seq` is none where the block carries FFh,
`identity` the cab identity a block under address 0 carries. -/
structure UplinkBlock where
  address : Nat
  identity : Option Nat
  seq : Option Nat
  index : Nat
  count : Nat
  content : Content
deriving DecidableEq, Repr

/-- A block and the slot of the current cycle it was sent in (the model's own record, log 10). -/
structure Sent where
  slot : Nat
  block : UplinkBlock
deriving DecidableEq, Repr

/-! ### Backed storage -/

/-- What the meter saves at a supply warning (R24). -/
structure SavedMeter where
  state : MeterState
  trip : Option Trip
  shift : Option Shift
deriving DecidableEq, Repr

/-- What the Emergency Controller saves at a supply warning (R176). -/
structure SavedEmergency where
  state : EmState
  number : Nat
  time : Option Reading
  alarmSent : Bool
  cancelSent : Nat
deriving DecidableEq, Repr

/-- Backed storage: what the last supply warning saved (R24, R38, R176). -/
structure Saved where
  meter : SavedMeter
  totalResidue : Nat
  hiredResidue : Nat
  emergency : SavedEmergency
deriving DecidableEq, Repr

/-! ### The model's own marks -/

/-- Which parts of the coming tick's work have been taken ahead of the TICK, by a row of the table that is that part's
own step (log 8). Every mark is cleared by the TICK. -/
structure Ahead where
  clock : Bool
  panic : Bool
  occupancy : Bool
  switch : Bool
  track : Bool
  channel : Bool
deriving DecidableEq, Repr

/-- Everything the part holds, block by block. -/
structure Device where
  pins : Pins
  vehicle : Vehicle
  tariff : TariffStore
  meter : Meter
  store : TripStore
  channel : Channel
  uplink : Uplink
  offers : OfferTable
  mail : Mailbox
  emergency : Emergency
  sign : Sign
  link : Link
  items : Items
  backed : Option Saved
  radio : List Sent
  ahead : Ahead
  draws : Nat
deriving DecidableEq, Repr

/-- The state: the commands that wait, first in first out, and the part. -/
structure State where
  pending : List Instr
  dev : Device
deriving DecidableEq, Repr

/-- The reasons a step could fault. The manual names no condition that stops the part, and no meaning raises this one.
Safe: it stops nothing. -/
inductive Fault where
  /-- Raised by nobody: the type has a constructor so that the interface can name it. -/
  | neverRaised
deriving DecidableEq, Repr

/-- The reasons a command could be refused. -/
inductive Refusal where
  /-- A command that has no meaning yet. No arm of exec answers it. Safe: it states nothing of the command. -/
  | notModelled (mnemonic : String)
deriving DecidableEq, Repr

/-! ### The values of a new part -/

/-- The lamp patterns of a new part (R179). -/
def defaultPatterns : List Pattern :=
  [⟨.off, .off, .off, .off⟩, ⟨.on, .on, .off, .off⟩, ⟨.on, .off, .off, .off⟩, ⟨.on, .off, .slow, .off⟩,
   ⟨.off, .off, .off, .slow⟩, ⟨.on, .on, .on, .off⟩, ⟨.off, .off, .off, .off⟩, ⟨.on, .off, .off, .fast⟩]

/-- The stored items of a new part (R196). -/
def newItems : Items :=
  { arbitration := .fixed, covert := false, trackInterval := 10, acceptance := [1], sensorMode := .quadrature,
    occupancyCheck := false, polarity := ⟨false, false, false, false⟩ }

/-- No sticky condition set (R194). -/
def Sticky.clear : Sticky := ⟨false, false, false, false, false, false, false, false⟩

/-- No mark of the coming tick set. -/
def Ahead.clear : Ahead := ⟨false, false, false, false, false, false⟩

/-- All totals 0 (R72). -/
def Lifetime.zero : Lifetime := ⟨0, 0, 0, 0, 0, 0, 0, 0⟩

/-- The occupancy count when it resets (R23). -/
def OccupancyCount.reset : OccupancyCount := ⟨0, 0, false, 0⟩

/-- The receiver in HUNTING (R188). -/
def Receiver.hunting : Receiver := ⟨[], 0, false⟩

/-- An empty phase-error window of ten ticks (R45). -/
def emptyWindow : List Nat := [0, 0, 0, 0, 0, 0, 0, 0, 0, 0]

/-- The display record of a part with no tariff set (R185). -/
def blankRecord : DisplayRecord := ⟨.uncalibrated, none, none, none, false, 0⟩

/-- The STATUS entry that the meter's first state asks for (R17, R122). -/
def firstStatus : Entry := ⟨.status, 0, 0, none, 0, .waiting, false, .none⟩

/-- A new part, right after its first power-on: the values of R25, R51, R58, R72, R74, R97, R122, R147, R162, R177, R178,
R187, R196 and R200, with every vehicle input inactive (log 4). -/
def State.reset : State :=
  { pending := []
    dev :=
      { pins := ⟨false, false, false, false, false, false⟩
        vehicle :=
          { pairA := false, pairB := false, forward := 0, reverse := 0, debt := 0, phaseErrors := emptyWindow
            fault := false, implausible := false, calendar := ⟨none, false⟩, panic := ⟨false, 0⟩
            occupancy := ⟨false, 0⟩, unmetered := .reset, fix := none }
        tariff :=
          { inForce := none, derived := [none, none, none, none], revision := 0, load := none, scheduled := none
            switch := ⟨false, 0⟩, lifetime := .zero, totalResidue := 0, hiredResidue := 0 }
        meter := { state := .uncalibrated, trip := none, shift := none, lastShift := 0, window := 0, replaced := none }
        store := { records := [], next := 1 }
        channel :=
          { reg := .searching, address := none, network := none, view := none, headerRx := .none, lastIntact := none
            lastAccepted := false, logon := none, loggedOnAs := none, lossTimer := 0, lostPeriod := none, holdTimer := 0 }
        uplink :=
          { entries := [firstStatus], nextOrder := 1, nextSerial := 1, inFlight := none, pointer := 1, nextSeq := 0, statusOwed := false
            accountingOwed := false, unmeteredOwed := false, lane := .empty, plan := none }
        offers := { entries := [], history := [], booking := .none, lastTold := .none, answer := none }
        mail := { first := none, second := none, latest := .first, mail := [], outbound := 0 }
        emergency :=
          { state := .quiet, number := 0, time := none, window := 0, alarmSent := false, cancelSent := 0, track := none }
        sign :=
          { table := defaultPatterns, blank := false, selected := 4, flash := 0, last := some blankRecord
            sending := some blankRecord, waiting := none }
        link :=
          { rx := .hunting, input := [], inHand := none, notices := []
            tx := .notice (.started .powerOn .uncalibrated .searching 0 Config.partRevision)
            replyWaiting := none, crcErrors := 0, sticky := .clear, accepting := true }
        items := newItems
        backed := none
        radio := []
        ahead := .clear
        draws := 0 } }

end Sys2Proof.Machine
end

