-- ==== Sys2Proof/Machine/Flags.lean ====
section
/-! DEFINITION. The flags: the sticky conditions of the Host Link (R194) and the trip flags of the meter (R8). Each
operation sets one flag; the sticky conditions are cleared together by a STATUS (R195), the trip flags with the context. -/

namespace Sys2Proof.Machine

open Sys2Proof

/-- Change the sticky conditions. -/
def onSticky (f : Sticky → Sticky) (d : Device) : Device :=
  { d with link := { d.link with sticky := f d.link.sticky } }

/-- LINK_OVERRUN (R190). -/
def setLinkOverrun : Device → Device := onSticky fun x => { x with linkOverrun := true }
/-- NOTICE_LOST (R193). -/
def setNoticeLost : Device → Device := onSticky fun x => { x with noticeLost := true }
/-- SENSOR_FAULT (R45). -/
def setSensorFault : Device → Device := onSticky fun x => { x with sensorFault := true }
/-- DISTANCE_IMPLAUSIBLE (R48). -/
def setDistanceImplausible : Device → Device := onSticky fun x => { x with distanceImplausible := true }
/-- LOAD_ABORTED (R61). -/
def setLoadAborted : Device → Device := onSticky fun x => { x with loadAborted := true }
/-- MAIL_DROPPED (R152). -/
def setMailDropped : Device → Device := onSticky fun x => { x with mailDropped := true }
/-- RECORD_DISPLACED (R20, R22). -/
def setRecordDisplaced : Device → Device := onSticky fun x => { x with recordDisplaced := true }

/-- Change the trip context, when one is held. -/
def onTrip (f : Trip → Trip) (d : Device) : Device :=
  { d with meter := { d.meter with trip := d.meter.trip.map f } }

/-- The tariff that the last tick's installation took out of force (R36). -/
def setReplaced (n : Option Nat) (d : Device) : Device := { d with meter := { d.meter with replaced := n } }

/-- Change the shift totals, when a shift is open. -/
def onShift (f : Shift → Shift) (d : Device) : Device :=
  { d with meter := { d.meter with shift := d.meter.shift.map f } }

/-- Set SENSOR_FAULT in the trip flags while the meter is HIRED (R8, R45). -/
def flagSensorFault (d : Device) : Device :=
  if d.meter.state = .hired then onTrip (fun t => { t with flags := { t.flags with sensorFault := true } }) d else d

/-- Set DISTANCE_IMPLAUSIBLE in the trip flags while the meter is HIRED (R8, R48). -/
def flagImplausible (d : Device) : Device :=
  if d.meter.state = .hired then onTrip (fun t => { t with flags := { t.flags with distanceImplausible := true } }) d
  else d

/-- Set JOB_CANCELLED_IN_TRIP in the trip flags (R8, R136). -/
def flagJobCancelled : Device → Device :=
  onTrip fun t => { t with flags := { t.flags with jobCancelled := true } }

/-- All trip flags clear (R5). -/
def TripFlags.clear : TripFlags := ⟨false, false, false, false, false, false, false⟩

end Sys2Proof.Machine
end

