-- ==== Sys2Proof/Machine/Operands.lean ====
section
/-! DEFINITION. The operands of a command: fields read from bytes, fields written as bytes, and the CRC (12, R202). -/

namespace Sys2Proof.Machine

open Sys2Proof

/-- A field of several bytes, most significant byte first (R202). -/
def readBytes (bs : List Byte) : Nat := bs.foldl (fun n b => n * 256 + b.toNat) 0

/-- The field of `len` bytes from byte `start` of a body. -/
def field (bs : List Byte) (start len : Nat) : Nat := readBytes ((bs.drop start).take len)

/-- Byte `i` of a body, 0 beyond its end. -/
def byteAt (bs : List Byte) (i : Nat) : Nat := field bs i 1

/-- A number as `width` bytes, most significant byte first (R202). -/
def writeBytes : Nat → Nat → List Byte
  | 0, _ => []
  | w + 1, n => BitVec.ofNat 8 (n / 256 ^ w) :: writeBytes w n

/-- A 32-bit field as a signed number, two's complement (R202). -/
def signed32 (n : Nat) : Int := if n < 2147483648 then n else (n : Int) - 4294967296

/-- A signed number as a 32-bit field (R202). -/
def unsigned32 (i : Int) : Nat := (i % 4294967296).toNat

/-- One bit step of the CRC: polynomial 1021h, most significant bit first (R202). -/
def crcStep (c : Nat) : Nat := if 32768 ≤ c then (c * 2) ^^^ 69665 else c * 2

/-- One byte of the CRC (R202). -/
def crcByte (c : Nat) (b : Byte) : Nat :=
  crcStep (crcStep (crcStep (crcStep (crcStep (crcStep (crcStep (crcStep (c ^^^ (b.toNat * 256)))))))))

/-- The CRC-16 of a run of bytes, initial value FFFFh (R202). -/
def crc16 (bs : List Byte) : Nat := bs.foldl crcByte 65535

/-- Bit `i` of a presence byte (R202). -/
def presence (bs : List Byte) (at_ bit : Nat) : Bool := (byteAt bs at_).testBit bit

/-- The time of five bytes from byte `start`: day number, then second of day (R202). -/
def readTime (bs : List Byte) (start : Nat) : Reading := ⟨field bs start 2, field bs (start + 2) 3⟩

/-- A time as five bytes (R202). -/
def writeTime (r : Reading) : List Byte := writeBytes 2 r.day ++ writeBytes 3 r.second

/-- An absent field is sent as 00h (R202). -/
def writeOption {α : Type} (width : Nat) (f : α → List Byte) : Option α → List Byte
  | some x => f x
  | none => List.replicate width 0

/-- A text or content filled up with 00h (R202). -/
def padTo (width : Nat) (bs : List Byte) : List Byte := (bs ++ List.replicate width 0).take width

/-- The place `i` of a row of places that may be empty. -/
def place {α : Type} (l : List (Option α)) (i : Nat) : Option α := (l[i]?).join

/-- The start byte of a host frame (12, The host frame). -/
def startByte : Byte := 0x5A

/-- The bytes of a host frame, start byte to CRC (12, The host frame). -/
def frameBytes (f : Frame) : List Byte :=
  let inner : List Byte := BitVec.ofNat 8 f.body.length :: f.kind :: f.tag :: f.body
  startByte :: inner ++ writeBytes 2 (crc16 inner)

end Sys2Proof.Machine
end

