-- ==== Sys2Proof/Machine/Ops.lean ====
section
/-! DEFINITION. Operations every block shares: reading the clock and the fix record, random draws, notices, the
transmitter, and the conversion of edges into metres. -/

namespace Sys2Proof.Machine

open Sys2Proof

/-- The calendar clock's reading, absent when the clock is UNSET (03, The calendar clock). -/
def reading (d : Device) : Option Reading := d.vehicle.calendar.time.map fun t => ⟨t.day, t.second⟩

/-- A fix is STALE when its age is greater than 300 ticks (R57). -/
def Fix.stale (f : Fix) : Bool := decide (Config.staleAfter < f.age)

/-- What a block that reads the fix record receives (R57). -/
def fixReport (d : Device) : Option FixReport :=
  d.vehicle.fix.map fun f => ⟨f.latitude, f.longitude, f.quality, f.time, f.age / 10, f.stale⟩

/-- The position a block of the emergency lane carries, STALE when stale, absent when no fix is held (R166, R169). -/
def sentPosition (d : Device) : Option SentPosition :=
  (fixReport d).map fun f => ⟨f.latitude, f.longitude, f.quality, f.time, f.stale⟩

/-- The latest fix as a trip position: absent when there is no fix or it is STALE (R5, R14). -/
def freshPosition (d : Device) : Option Position :=
  d.vehicle.fix.bind fun f => if f.stale then none else some ⟨f.latitude, f.longitude⟩

/-- A random number below `bound` (R82, R108, R113): the next free value, brought into the range (log 2). -/
def draw (bound : Nat) (d : Device) : Nat × Device :=
  (Config.draw d.draws % bound, { d with draws := d.draws + 1 })

/-- The part is held: from a supply warning until power-on no request, block or tick is taken (R24, R43, R201). -/
def held (d : Device) : Bool := !d.link.accepting

/-- A notice enters the notice queue at its end, or is dropped at a full queue and sets NOTICE_LOST (R193). -/
def notify (n : Notice) (d : Device) : Device :=
  if d.link.notices.length < Config.noticeSize then
    { d with link := { d.link with notices := d.link.notices ++ [n] } }
  else setNoticeLost d

/-- A notice that is made only when `b` holds. -/
def notifyIf (b : Bool) (n : Notice) (d : Device) : Device := if b then notify n d else d

/-- The transmitter, when IDLE, sends the waiting reply, else the oldest notice (R193). From a supply warning on it
sends no notice (R201). -/
def pump (d : Device) : Device :=
  match d.link.tx with
  | .idle =>
    match d.link.replyWaiting with
    | some r => { d with link := { d.link with tx := .reply r, replyWaiting := none } }
    | none =>
      match d.link.notices with
      | n :: rest =>
        if d.link.accepting then { d with link := { d.link with tx := .notice n, notices := rest } } else d
      | [] => d
  | _ => d

/-- A distance total and its residue take `p` edges at the calibration constant `k` (R37). -/
def advance (k p top total residue : Nat) : Nat × Nat :=
  (satAdd top total ((residue + p * 1000) / k), (residue + p * 1000) % k)

/-- Edges as metres: edges × 1000 div k (R40). -/
def metresOf (k edges : Nat) : Nat := edges * 1000 / k

/-- The calibration constant in force; 0 while no set is in force, when nothing converts. -/
def kInForce (d : Device) : Nat := (d.tariff.inForce.map TariffSet.k).getD 0

/-- The cab identity and fleet number, 0 and 0 while no set is in force (R58). -/
def identityInForce (d : Device) : Identity := (d.tariff.inForce.map TariffSet.identity).getD ⟨0, 0⟩

/-- Fare and extras, when the meter is HIRED or STOPPED (R100, R166). -/
def tripMoney (d : Device) : Option (Nat × Nat) :=
  if d.meter.state = .hired ∨ d.meter.state = .stopped then d.meter.trip.map fun t => (t.fare, t.extras) else none

/-- Money and counts added to a lifetime total (R72). -/
def onLifetime (f : Lifetime → Lifetime) (d : Device) : Device :=
  { d with tariff := { d.tariff with lifetime := f d.tariff.lifetime } }

/-! ### Answers to requests -/

/-- What an owner answers to a request: the result, the indicator and its data (R192). -/
structure Answer where
  result : Result
  indicator : Indicator
  data : ReplyData
deriving DecidableEq, Repr

/-- OK with the owner's data. -/
def okWith (data : ReplyData) (d : Device) : Answer × Device := (⟨.ok, .none, data⟩, d)

/-- OK. -/
def ok (d : Device) : Answer × Device := okWith .none d

/-- OK with the indicator ALREADY and the owner's data. -/
def already (data : ReplyData) (d : Device) : Answer × Device := (⟨.ok, .already, data⟩, d)

/-- A refusal leaves the owner's state as it was (R192). -/
def refuse (r : Result) (d : Device) : Answer × Device := (⟨r, .none, .none⟩, d)

/-- A body whose length the kind does not allow is refused with MALFORMED (R191). -/
def withLength (n : Nat) (body : List Byte) (d : Device) (f : Answer × Device) : Answer × Device :=
  if body.length = n then f else refuse .malformed d

end Sys2Proof.Machine
end

