-- ==== Sys2Proof/Machine/Queue.lean ====
section
/-! DEFINITION. The Uplink Queue's entries (R98 to R104, R115, R121) and the Trip Store's marks (R21). -/

namespace Sys2Proof.Machine

open Sys2Proof

/-- The class of a message, fixed by its kind (R98). -/
def Msg.cls : Msg → Nat
  | .bid _ => 1
  | .decline _ _ => 1
  | .noshow _ => 1
  | .tripRecord _ => 2
  | .shiftRecord _ => 2
  | .status => 3
  | .text _ _ => 4
  | .cannedReply _ _ => 4
  | .readReceipt _ => 4

/-- The uplink blocks a message needs (R98). -/
def Msg.blocks : Msg → Nat
  | .tripRecord _ => 2
  | .shiftRecord _ => 2
  | .text _ chars => chars.length / 16 + (if chars.length % 16 = 0 then 0 else 1)
  | _ => 1

/-- The record an accounting message refers to (R98). -/
def Msg.record : Msg → Option Nat
  | .tripRecord n => some n
  | .shiftRecord n => some n
  | _ => none

/-- The job of a class-1 message (R98). -/
def Msg.job : Msg → Option Nat
  | .bid j => some j
  | .decline j _ => some j
  | .noshow j => some j
  | _ => none

/-- A TEXT message. -/
def Msg.isText : Msg → Bool
  | .text _ _ => true
  | _ => false

/-- The most entries allowed for the message's kind are held: one accounting entry, two TEXT, one class-1 entry for the
same job (R99). -/
def atLimit (m : Msg) (es : List Entry) : Bool :=
  match m.record, m.job with
  | some _, _ => es.any fun e => e.msg.record.isSome
  | none, some j => es.any fun e => e.msg.job == some j
  | none, none => m.isText && decide (2 ≤ (es.filter fun e => e.msg.isText).length)

/-- The order number after this one (R98). -/
def nextOrderAfter (n : Nat) : Nat := (n + 1) % 65536

/-- Make an entry in state WAITING, with attempts 0 and no sequence (R99). -/
def addEntry (m : Msg) (d : Device) : Device :=
  { d with uplink :=
      { d.uplink with
        entries := d.uplink.entries ++ [⟨m, d.uplink.nextOrder, d.uplink.nextSerial, none, 0, .waiting, false, .none⟩]
        nextOrder := nextOrderAfter d.uplink.nextOrder
        nextSerial := d.uplink.nextSerial + 1 } }

/-- The four outcomes of an owner's request (R99). -/
inductive Asked where
  | satisfied
  | limit
  | full
  | added
deriving DecidableEq, Repr

/-- The queue holds a STATUS entry. -/
def hasStatus (d : Device) : Bool := d.uplink.entries.any fun e => e.msg == .status

/-- An owner asks the queue to add a message (R99, R100). -/
def ask (m : Msg) (d : Device) : Asked × Device :=
  if m = .status ∧ (hasStatus d ∨ d.uplink.statusOwed) then (.satisfied, d)
  else if atLimit m d.uplink.entries then (.limit, d)
  else if Config.queueSize ≤ d.uplink.entries.length then
    if m = .status then (.satisfied, { d with uplink := { d.uplink with statusOwed := true } }) else (.full, d)
  else (.added, addEntry m d)

/-- A STATUS is asked for (R17, R143, R145, R146). -/
def askStatus (d : Device) : Device := (ask .status d).2

/-- A STATUS marked unmetered is asked for (R100). -/
def askUnmetered (d : Device) : Device :=
  askStatus { d with uplink := { d.uplink with unmeteredOwed := true } }

/-- The oldest record marked WAITING (R101). -/
def oldestWaiting (d : Device) : Option Stored := d.store.records.find? fun r => r.mark == .waiting

/-- The message that sends a record (R101). -/
def recordMsg (r : Stored) : Msg :=
  match r.body with
  | .trip _ => .tripRecord r.number
  | .shift _ => .shiftRecord r.number

/-- The queue makes its one accounting entry, for the oldest WAITING record, or owes it at a full queue (R101). -/
def makeAccounting (d : Device) : Device :=
  if d.uplink.entries.any fun e => e.msg.record.isSome then d
  else
    match oldestWaiting d with
    | none => d
    | some r =>
      if Config.queueSize ≤ d.uplink.entries.length then
        { d with uplink := { d.uplink with accountingOwed := true } }
      else addEntry (recordMsg r) d

/-- The Mailbox enters its PENDING receipts in list order; the first FULL ends the pass (R156). -/
def receiptPass : List Mail → Device → List Mail × Device
  | [], d => ([], d)
  | m :: ms, d =>
    if m.receipt = .pending then
      match ask (.readReceipt m.number) d with
      | (.added, d') =>
        let (ms', d'') := receiptPass ms d'
        ({ m with receipt := .queued } :: ms', d'')
      | (_, d') => (m :: ms, d')
    else
      let (ms', d') := receiptPass ms d
      (m :: ms', d')

/-- The Mailbox is told that room is free (R102, R156). -/
def offerReceipts (d : Device) : Device :=
  let (ms, d') := receiptPass d.mail.mail d
  { d' with mail := { d'.mail with mail := ms } }

/-- The queue holds fewer than 16 entries. -/
def hasRoom (d : Device) : Bool := decide (d.uplink.entries.length < Config.queueSize)

/-- Room is offered: to an owed STATUS, to an owed accounting entry, then to the Mailbox's receipts (R102). The room that a
RESCAN frees by removing a BID is offered too, though R162 says that a RESCAN changes nothing in the Mailbox (log 47). -/
def offerRoom (d : Device) : Device :=
  let d1 := if hasRoom d && d.uplink.statusOwed then
      addEntry .status { d with uplink := { d.uplink with statusOwed := false } } else d
  let d2 := if hasRoom d1 && d1.uplink.accountingOwed then
      makeAccounting { d1 with uplink := { d1.uplink with accountingOwed := false } } else d1
  if hasRoom d2 then offerReceipts d2 else d2

/-- The in-flight message becomes none when it is this entry. -/
def groundEntry (serial : Nat) (u : Uplink) : Uplink :=
  if u.inFlight.map InFlight.serial = some serial then { u with inFlight := none } else u

/-- The plan's contention slot is left unused when it is this entry's (R103). -/
def unplanEntry (serial : Nat) (u : Uplink) : Uplink :=
  let free (p : Plan) : Plan :=
    if p.contention.map Prod.snd = some (.entry serial) then { p with contention := none } else p
  { u with plan := u.plan.map free }

/-- An entry leaves the queue, and the room is offered (R102, R103). -/
def dropEntry (serial : Nat) (d : Device) : Device :=
  let u := unplanEntry serial (groundEntry serial d.uplink)
  offerRoom { d with uplink := { u with entries := u.entries.filter fun e => e.serial != serial } }

/-- The Offer Table asks the queue to remove the BID of a job (R103). -/
def removeBid (job : Nat) (d : Device) : Device :=
  match d.uplink.entries.find? fun e => e.msg == .bid job with
  | some e => dropEntry e.serial d
  | none => d

/-- Change the entry with this serial. -/
def onEntry (serial : Nat) (f : Entry → Entry) (d : Device) : Device :=
  { d with uplink := { d.uplink with entries := d.uplink.entries.map fun e => if e.serial = serial then f e else e } }

/-- The entry with this serial. -/
def entryAt (serial : Nat) (d : Device) : Option Entry := d.uplink.entries.find? fun e => e.serial == serial

/-- The mark of the record with this number changes (R21). -/
def setMark (number : Nat) (m : Mark) (d : Device) : Device :=
  let change (r : Stored) : Stored := if r.number = number then { r with mark := m } else r
  { d with store := { d.store with records := d.store.records.map change } }

/-- The record an accounting entry refers to takes a mark; any other message changes nothing (R21). -/
def markRecordOf (m : Msg) (mark : Mark) (d : Device) : Device :=
  match m.record with
  | some n => setMark n mark d
  | none => d

/-- Every record marked IN_FLIGHT returns to WAITING (R87). -/
def storeForfeit (d : Device) : Device :=
  let change (r : Stored) : Stored := if r.mark = .inFlight then { r with mark := .waiting } else r
  { d with store := { d.store with records := d.store.records.map change } }

/-- An entry chosen for the current cycle and not yet sent is unchosen (R121). -/
def unchoose (u : Uplink) : Uplink :=
  let free (p : Plan) : Plan :=
    match p.contention with
    | some (_, .entry _) => { p with contention := none }
    | _ => p
  { u with plan := u.plan.map free }

/-- The message in flight returns to WAITING with its attempts and sequence unchanged, and an accounting record with it
(R120, R121). -/
def groundInFlight (d : Device) : Device :=
  match d.uplink.inFlight with
  | none => d
  | some f =>
    let d1 := match entryAt f.serial d with
      | some e => markRecordOf e.msg .waiting d
      | none => d
    let d2 := onEntry f.serial (fun e => { e with state := .waiting }) d1
    { d2 with uplink := { d2.uplink with inFlight := none } }

/-- What the Uplink Queue does when the cab leaves REGISTERED, changes address, or forfeits it (R121). -/
def revertInFlight (d : Device) : Device :=
  let d1 := groundInFlight d
  { d1 with uplink := unchoose d1.uplink }

/-- The hold of an entry ends at its next tick. -/
def holdEnds (e : Entry) : Bool :=
  match e.state with
  | .held n => decide (n ≤ 1)
  | _ => false

/-- One tick of an entry's hold (R115). -/
def holdEntryTick (e : Entry) : Entry :=
  match e.state with
  | .held n => if n ≤ 1 then { e with state := .waiting, attempts := 0 } else { e with state := .held (n - 1) }
  | _ => e

/-- The tick of a hold: at its end the entry and its record return to WAITING, with attempts 0 (R115). -/
def holdTick (d : Device) : Device :=
  let ended := d.uplink.entries.filter holdEnds
  let d1 := { d with uplink := { d.uplink with entries := d.uplink.entries.map holdEntryTick } }
  ended.foldl (fun x e => markRecordOf e.msg .waiting x) d1

end Sys2Proof.Machine
end

