-- ==== Sys2Proof/Machine/Mail.lean ====
section
/-! DEFINITION. The Mailbox (08): reassembly of inbound parts, completion and eviction, and the driver's requests. -/

namespace Sys2Proof.Machine

open Sys2Proof

/-! ### The reassembly buffers (R148 to R151) -/

/-- The header count of a buffer has reached its limit: the buffer is to be discarded (R151, log 9). -/
def Partial.overdue (p : Partial) : Bool := decide (Config.reassemblyLimit ≤ p.headers)

/-- A buffer whose header count has reached 8 is EMPTY (R151). -/
def dropOverdue (b : Option Partial) : Option Partial := b.filter fun p => !p.overdue

/-- Both buffers, any that is overdue discarded (R151). -/
def dropOverdueBuffers (d : Device) : Device :=
  { d with mail := { d.mail with first := dropOverdue d.mail.first, second := dropOverdue d.mail.second } }

/-- The buffer named by a command, when its header count has reached 8, is discarded (R151). -/
def dropOverdueBuffer (b : BufferId) (d : Device) : Device :=
  match b with
  | .first => { d with mail := { d.mail with first := dropOverdue d.mail.first } }
  | .second => { d with mail := { d.mail with second := dropOverdue d.mail.second } }

/-- A counted header adds one to the header count of a PARTIAL buffer (R151). -/
def countHeader (p : Partial) : Partial := { p with headers := p.headers + 1 }

/-- A counted header reaches the Mailbox; the buffers an earlier header brought to 8 are discarded first (R78, R151). -/
def mailHeader (d : Device) : Device :=
  let d1 := dropOverdueBuffers d
  { d1 with mail := { d1.mail with first := d1.mail.first.map countHeader, second := d1.mail.second.map countHeader } }

/-- A buffer. -/
def buffer (b : BufferId) (d : Device) : Option Partial :=
  match b with
  | .first => d.mail.first
  | .second => d.mail.second

/-- A buffer takes a new content. -/
def setBuffer (b : BufferId) (p : Option Partial) (d : Device) : Device :=
  match b with
  | .first => { d with mail := { d.mail with first := p } }
  | .second => { d with mail := { d.mail with second := p } }

/-- The part is the message's final part (08, Inbound parts). -/
def partFinal (p : TextPart) : Bool := p.index + 1 == p.count

/-- A part that is ignored when it is judged alone (R148). -/
def partIllFormed (p : TextPart) : Bool :=
  decide (p.count ≤ p.index) || p.cls.isNone || (!partFinal p && decide (p.positions.length < 16))
    || (partFinal p && (decide (4 < p.codes) || decide (p.positions.length < p.codes)))

/-- The mailbox holds a message number. -/
def mailHeld (n : Nat) (d : Device) : Bool := d.mail.mail.any fun m => m.number == n

/-- The reply code count a part brings: the final part's (R149). -/
def partCodes (p : TextPart) : Option Nat := if partFinal p then some p.codes else none

/-- The content of a buffer that a part opens (R149). -/
def openPartial (p : TextPart) (cls : MsgClass) : Partial :=
  { number := p.number, cls, count := p.count, parts := [⟨p.index, p.positions⟩], codes := partCodes p, headers := 0 }

/-- A part is added to its buffer (R149). -/
def addPart (p : TextPart) (b : Partial) : Partial :=
  { b with parts := b.parts ++ [⟨p.index, p.positions⟩]
           codes := match partCodes p with
             | some c => some c
             | none => b.codes
           headers := 0 }

/-- The positions a buffer holds for an index. -/
def Partial.partAt (b : Partial) (i : Nat) : Option (List Byte) :=
  (b.parts.find? fun h => h.index == i).map HeldPart.positions

/-- Every index 0..count−1 is held (R149). -/
def Partial.complete (b : Partial) : Bool := (List.range b.count).all fun i => (b.partAt i).isSome

/-- The positions of all parts joined in order of index (R152). -/
def Partial.positions (b : Partial) : List Byte := (List.range b.count).flatMap fun i => (b.partAt i).getD []

/-! ### Completion (R152, R153) -/

/-- The reply codes a record keeps: in the order sent, without 0 and without repeats (R152). -/
def keptCodes : List Byte → List Byte
  | [] => []
  | c :: cs => if c = 0 then keptCodes cs else c :: (keptCodes cs).filter (· != c)

/-- The oldest message that may be evicted first: READ or REPLIED, its receipt not PENDING (R152, step 1). -/
def Mail.settled (m : Mail) : Bool := m.state != .unread && m.receipt != .pending

/-- An UNREAD message of class NORMAL or BROADCAST (R152, step 2). -/
def Mail.unreadPlain (m : Mail) : Bool := m.state == .unread && m.cls != .priority

/-- The message a full mailbox gives up, if any (R152). -/
def evictee (ms : List Mail) : Option Mail :=
  match ms.find? Mail.settled with
  | some m => some m
  | none => ms.find? Mail.unreadPlain

/-- Covert mode hides the call: the item is on and the state is not QUIET (R153, R175). -/
def covertNow (d : Device) : Bool := d.items.covert && d.emergency.state != .quiet

/-- A message leaves the mailbox. -/
def removeMail (n : Nat) (d : Device) : Device :=
  { d with mail := { d.mail with mail := d.mail.mail.filter fun m => m.number != n } }

/-- A record enters at the end of the list, with its NEW_MAIL notice (R152, R153). -/
def appendMail (m : Mail) (d : Device) : Device :=
  notifyIf (!covertNow d || m.cls == .priority) (.newMail m.number m.cls m.text.length m.codes.length)
    { d with mail := { d.mail with mail := d.mail.mail ++ [m] } }

/-- A completed record is offered to the mailbox (R152, R153). -/
def takeMail (m : Mail) (d : Device) : Device :=
  if d.mail.mail.length < Config.mailboxSize then appendMail m d
  else
    match evictee d.mail.mail with
    | none => setMailDropped d
    | some old =>
      appendMail m (notifyIf (!covertNow d) (.mailEvicted old.number old.cls old.state) (removeMail old.number d))

/-- A message is completed from its joined positions, of which the last `codes` are reply codes (R152). -/
def completeMail (number : Nat) (cls : MsgClass) (positions : List Byte) (codes : Nat) (d : Device) : Device :=
  let text := positions.take (positions.length - codes)
  let sent := positions.drop (positions.length - codes)
  if text = [] then d
  else
    takeMail
      { number, cls, arrival := reading d, text, codes := keptCodes sent, state := .unread, receipt := .none
        reply := none } d

/-- A part is added to the PARTIAL buffer of its number, unless it is a duplicate or inconsistent (R149, R151). -/
def extendBuffer (b : BufferId) (held : Partial) (p : TextPart) (cls : MsgClass) (d : Device) : Device :=
  if held.cls != cls || held.count != p.count || (held.partAt p.index).isSome then d
  else
    let grown := addPart p held
    let d1 := { d with mail := { d.mail with latest := b } }
    if grown.complete then completeMail grown.number grown.cls grown.positions (grown.codes.getD 0) (setBuffer b none d1)
    else setBuffer b (some grown) d1

/-- A part opens a buffer (R149, R150). -/
def openBuffer (b : BufferId) (p : TextPart) (cls : MsgClass) (d : Device) : Device :=
  setBuffer b (some (openPartial p cls)) { d with mail := { d.mail with latest := b } }

/-- The buffer of a PARTIAL message with this number. -/
def bufferOf (n : Nat) (d : Device) : Option (BufferId × Partial) :=
  match d.mail.first.filter fun p => p.number == n, d.mail.second.filter fun p => p.number == n with
  | some p, _ => some (.first, p)
  | none, some p => some (.second, p)
  | none, none => none

/-- The buffer a new message opens: the first EMPTY one, or the one whose last part was taken earlier (R149, R150). -/
def bufferForNew (d : Device) : BufferId :=
  if d.mail.first.isNone then .first
  else if d.mail.second.isNone then .second
  else
    match d.mail.latest with
    | .first => .second
    | .second => .first

/-- A TEXT_PART that reaches the Mailbox (R148 to R152). -/
def takePart (p : TextPart) (d : Device) : Device :=
  let d1 := dropOverdueBuffers d
  match p.cls with
  | none => d1
  | some cls =>
    if partIllFormed p || mailHeld p.number d1 then d1
    else if p.count = 1 then completeMail p.number cls p.positions p.codes d1
    else
      match bufferOf p.number d1 with
      | some (b, held) => extendBuffer b held p cls d1
      | none => openBuffer (bufferForNew d1) p cls d1

/-! ### The driver's side (R154 to R161) -/

/-- Change the message with this number, if the mailbox holds it. -/
def onMail (n : Nat) (f : Mail → Mail) (d : Device) : Device :=
  { d with mail := { d.mail with mail := d.mail.mail.map fun m => if m.number = n then f m else m } }

/-- The message with this number. -/
def findMail (n : Nat) (d : Device) : Option Mail := d.mail.mail.find? fun m => m.number == n

/-- One message as MAIL_LIST reports it (R154). -/
def Mail.line (m : Mail) : MailLine :=
  { number := m.number, cls := m.cls, state := m.state, arrival := m.arrival, textLength := m.text.length
    codes := m.codes, receipt := m.receipt, reply := m.reply }

/-- The number of PARTIAL buffers, those overdue not counted (R151, R154). -/
def partialCount (d : Device) : Nat :=
  (dropOverdue d.mail.first).toList.length + (dropOverdue d.mail.second).toList.length

/-- MAIL_LIST (R154). -/
def askMailList (body : List Byte) (d : Device) : Answer × Device :=
  withLength 0 body d (okWith (.mailList (partialCount d) (d.mail.mail.map Mail.line)) d)

/-- A PRIORITY message first read owes its receipt: QUEUED when the queue takes it, else PENDING (R155, R156). -/
def oweReceipt (n : Nat) (d : Device) : Device :=
  match ask (.readReceipt n) d with
  | (.added, d') => onMail n (fun m => { m with receipt := .queued }) d'
  | (_, d') => onMail n (fun m => { m with receipt := .pending }) d'

/-- A held message is read (R155). -/
def readMail (m : Mail) (d : Device) : Device :=
  if m.state = .unread then
    let d1 := onMail m.number (fun x => { x with state := .read }) d
    if m.cls = .priority then oweReceipt m.number d1 else d1
  else d

/-- MAIL_READ (R155). The length is judged before the number is looked up (log 7). -/
def askMailRead (body : List Byte) (d : Device) : Answer × Device :=
  withLength 2 body d
    (match findMail (field body 0 2) d with
     | none => refuse .notFound d
     | some m => okWith (.mailText m.cls m.arrival m.text m.codes) (readMail m d))

/-- MAIL_REPLY on a held message (R157, checks 2 to 5). -/
def replyTo (m : Mail) (code : Nat) (d : Device) : Answer × Device :=
  if m.state ≠ .read then refuse .wrongState d
  else if !m.codes.any (fun c => c.toNat == code) then refuse .outOfRange d
  else
    match ask (.cannedReply m.number code) d with
    | (.added, d') => ok (onMail m.number (fun x => { x with state := .replied, reply := some (code, .queued) }) d')
    | _ => refuse .queueFull d

/-- MAIL_REPLY (R157). The length is judged before the number is looked up and before the message's state (log 7). -/
def askMailReply (body : List Byte) (d : Device) : Answer × Device :=
  withLength 3 body d
    (match findMail (field body 0 2) d with
     | none => refuse .notFound d
     | some m => replyTo m (byteAt body 2) d)

/-- MAIL_DELETE (R159). The length is judged before the number is looked up and before the receipt (log 7). -/
def askMailDelete (body : List Byte) (d : Device) : Answer × Device :=
  withLength 2 body d
    (match findMail (field body 0 2) d with
     | none => refuse .notFound d
     | some m => if m.receipt = .pending then refuse .wrongState d else ok (removeMail m.number d))

/-- A character of a text (R160, R202). -/
def isCharacter (b : Byte) : Bool := decide (32 ≤ b.toNat ∧ b.toNat ≤ 254)

/-- SEND_TEXT (R160, R161). -/
def askSendText (body : List Byte) (d : Device) : Answer × Device :=
  if body.length = 0 ∨ 160 < body.length then refuse .outOfRange d
  else if !body.all isCharacter then refuse .malformed d
  else
    match ask (.text d.mail.outbound body) d with
    | (.added, d') =>
      okWith (.outbound d.mail.outbound)
        { d' with mail := { d'.mail with outbound := (d.mail.outbound + 1) % 256 } }
    | _ => refuse .queueFull d

/-! ### Reports of the Uplink Queue (R156, R158) -/

/-- The end of a READ_RECEIPT: the message found by the reference takes it, whatever its receipt (R156, log 11). -/
def receiptEnds (n : Nat) (delivered : Bool) (d : Device) : Device :=
  onMail n (fun m => { m with receipt := if delivered then .delivered else .failed }) d

/-- A REPLIED message whose CANNED_REPLY has ended (R158). -/
def Mail.replyEnded (delivered : Bool) (m : Mail) : Mail :=
  if delivered then { m with reply := m.reply.map fun r => (r.1, .delivered) }
  else { m with state := .read, reply := none }

/-- The end of a CANNED_REPLY: a REPLIED message takes it (R158, log 11). -/
def replyEnds (n : Nat) (delivered : Bool) (d : Device) : Device :=
  onMail n (fun m => if m.state = .replied then m.replyEnded delivered else m) d

/-- The values of a power-on and of a host RESET (R162). -/
def newMailbox : Mailbox := { first := none, second := none, latest := .first, mail := [], outbound := 0 }

end Sys2Proof.Machine
end

