-- ==== Sys2Proof/Machine/Sign.lean ====
section
/-! DEFINITION. Sign and Display (10): the selected entry, the lamps, and the passenger display record. -/

namespace Sys2Proof.Machine

open Sys2Proof

/-- The emergency state shows pattern entry 7 (R181). -/
def alarmShown (d : Device) : Bool :=
  d.emergency.state == .raised || d.emergency.state == .acknowledged

/-- The zone booking is BOOKED. -/
def isBooked : Booking → Bool
  | .booked _ _ => true
  | _ => false

/-- The entry the table of R181 gives without its first line (R184). -/
def baseEntry (d : Device) : Nat :=
  if d.sign.blank then 6
  else
    match d.meter.state with
    | .uncalibrated => 4
    | .offDuty => 0
    | .forHire => if isBooked d.offers.booking then 5 else 1
    | .hired => 2
    | .stopped => 3

/-- The entry the table of R181 gives. -/
def selectEntry (d : Device) : Nat := if alarmShown d then 7 else baseEntry d

/-- The selected entry as a reply tells it: without the first line of R181 while covert mode hides a call (R184). -/
def toldEntry (d : Device) : Nat :=
  if d.items.covert && alarmShown d then baseEntry d else d.sign.selected

/-- The selection is made again (R181). -/
def refreshSign (d : Device) : Device := { d with sign := { d.sign with selected := selectEntry d } }

/-- A lamp is lit or unlit by its mode and the point the flash clock has reached (R180). -/
def lampLit (m : LampMode) (flash : Nat) : Bool :=
  match m with
  | .off => false
  | .on => true
  | .slow => decide (flash % 8 < 4)
  | .fast => decide (flash % 2 = 0)

/-- The pattern shown: the selected entry's content. -/
def shownPattern (d : Device) : Pattern := (d.sign.table[d.sign.selected]?).getD ⟨.off, .off, .off, .off⟩

/-- The lamp outputs, true for active: a lit lamp drives its output active in NORMAL and inactive in INVERTED (R180). -/
def lampOutputs (d : Device) : Bool × Bool × Bool × Bool :=
  let p := shownPattern d
  let q := d.items.polarity
  let out (m : LampMode) (inverted : Bool) : Bool := lampLit m d.sign.flash != inverted
  (out p.l1 q.l1, out p.l2 q.l2, out p.l3 q.l3, out p.l4 q.l4)

/-- The tariff for hire: the scheduled tariff, or the default of the set in force when the result is none (R70). -/
def tariffForHire (d : Device) : Option Nat :=
  d.tariff.inForce.map fun set => d.tariff.scheduled.getD set.default

/-- The passenger display record the part's state gives (R185). -/
def displayRecord (d : Device) : DisplayRecord :=
  let decimals := (d.tariff.inForce.map TariffSet.decimals).getD 0
  match d.meter.state with
  | .forHire => ⟨.forHire, tariffForHire d, none, none, false, decimals⟩
  | .hired => ⟨.hired, d.meter.trip.map Trip.tariff, d.meter.trip.map Trip.fare, none, false, decimals⟩
  | .stopped => ⟨.stopped, none, d.meter.trip.map Trip.fare, d.meter.trip.map Trip.extras, true, decimals⟩
  | st => ⟨st, none, none, none, false, decimals⟩

/-- A record is sent, or waits for the output in place of any record waiting before it (R186). -/
def sendRecord (r : DisplayRecord) (d : Device) : Device :=
  match d.sign.sending with
  | none => { d with sign := { d.sign with last := some r, sending := some r } }
  | some _ => { d with sign := { d.sign with last := some r, waiting := some r } }

/-- A record is made and sent when it differs from the last one made (R186). -/
def refreshDisplay (d : Device) : Device :=
  if d.sign.last = some (displayRecord d) then d else sendRecord (displayRecord d) d

/-- Sign and Display takes an event's changes together: one selection, one record (R181, R186). -/
def refresh (d : Device) : Device := refreshDisplay (refreshSign d)

/-- The end of an event: Sign and Display takes its changes, and the transmitter what it can send. -/
def finish (d : Device) : Device := pump (refresh d)

end Sys2Proof.Machine
end

