-- ==== Sys2Proof/Machine/Offers.lean ====
section
/-! DEFINITION. The Offer Table and the zone booking (07): removal, promotion, admission, awards, and what the meter, the
channel and the emergency do to the table. -/

namespace Sys2Proof.Machine

open Sys2Proof

/-- A job number in range (R123). -/
def jobInRange (j : Nat) : Bool := decide (1 ≤ j ∧ j ≤ Config.jobTop)

/-- The entry of a job. -/
def findOffer (job : Nat) (d : Device) : Option Offer := d.offers.entries.find? fun o => o.job == job

/-- The entry holds the ACTIVE role. -/
def Offer.isActive (o : Offer) : Bool :=
  match o.state with
  | .active _ => true
  | _ => false

/-- The entry holds the FORWARD role. -/
def Offer.isForward (o : Offer) : Bool := o.state == .forward

/-- The entry is OFFERED. -/
def Offer.isOffered (o : Offer) : Bool := o.state == .offered

/-- The entry is BIDDING. -/
def Offer.isBidding (o : Offer) : Bool :=
  match o.state with
  | .bidding _ _ => true
  | _ => false

/-- The entry is BIDDING with its bid not delivered (R124). -/
def Offer.bidUndelivered (o : Offer) : Bool :=
  match o.state with
  | .bidding delivered _ => !delivered
  | _ => false

/-- The entry is OFFERED or BIDDING. -/
def Offer.isOpen (o : Offer) : Bool := o.isOffered || o.isBidding

/-- The entry that holds the ACTIVE role (R125). -/
def activeOffer (d : Device) : Option Offer := d.offers.entries.find? Offer.isActive

/-- The entry that holds the FORWARD role (R125). -/
def forwardOffer (d : Device) : Option Offer := d.offers.entries.find? Offer.isForward

/-- Change the entry of a job. -/
def onOffer (job : Nat) (f : Offer → Offer) (d : Device) : Device :=
  { d with offers := { d.offers with entries := d.offers.entries.map fun o => if o.job = job then f o else o } }

/-- The FORWARD entry, if one is held, becomes ACTIVE, not IN_TRIP, with a JOB notice (R125). -/
def promote (d : Device) : Device :=
  match forwardOffer d with
  | some o => notify (.jobPromoted o.job) (onOffer o.job (fun x => { x with state := .active false }) d)
  | none => d

/-- An entry leaves the table: its undelivered BID is removed, its number goes to the removal history, and the FORWARD
entry is promoted when the ACTIVE one went (R124, steps 1 to 3). -/
def dropOffer (o : Offer) (d : Device) : Device :=
  let d1 := if o.bidUndelivered then removeBid o.job d else d
  let d2 := { d1 with offers := { d1.offers with
    entries := d1.offers.entries.filter fun x => x.job != o.job
    history := (o.job :: d1.offers.history).take Config.offerSize } }
  if o.isActive then promote d2 else d2

/-- A removal with its OFFER_REMOVED notice, sent when `tell` holds (R124). -/
def removeOffer (reason : RemovalReason) (tell : Bool) (o : Offer) (d : Device) : Device :=
  notifyIf tell (.offerRemoved o.job reason none) (dropOffer o d)

/-- Every entry that meets a test is removed, in table order, which no rule gives (log 58). -/
def removeOffers (reason : RemovalReason) (tell : Bool) (test : Offer → Bool) (d : Device) : Device :=
  (d.offers.entries.filter test).foldl (fun x o => removeOffer reason tell o x) d

/-- The zone booking becomes NONE, with a STATUS asked for and a ZONE notice when `tell` holds; a booking already NONE
stays as it is (R146). -/
def releaseBooking (cause : ZoneCause) (tell : Bool) (d : Device) : Device :=
  if d.offers.booking = .none then d
  else
    let d1 := { d with offers := { d.offers with booking := .none, answer := none } }
    notifyIf tell (.zone .none cause) (askStatus d1)

/-- The table's share of a HIRE but for the ACTIVE entry: the non-forward offers and the booking (R138, steps 2 and 3). -/
def hireTable (d : Device) : Device :=
  releaseBooking .hire true (removeOffers .meterHired true (fun o => o.isOpen && !o.forward) d)

/-- The table's share of a SHIFT_CLOSE (R139). -/
def closeTable (d : Device) : Device :=
  releaseBooking .offDuty true (removeOffers .offDuty true Offer.isOpen d)

/-- The table's share of a forfeit (R140). -/
def forfeitTable (d : Device) : Device :=
  let d1 := releaseBooking .coverage true (removeOffers .coverage true Offer.isOpen d)
  { d1 with offers := { d1.offers with lastTold := .none } }

/-- The table's share of a BAR (R140). -/
def barTable (d : Device) : Device :=
  releaseBooking .barred true (removeOffers .barred true Offer.isOpen d)

/-- The table's share of a raise: no notice in covert mode (R141, R146). -/
def raiseTable (d : Device) : Device :=
  let tell := !d.items.covert
  releaseBooking .emergency tell (removeOffers .emergency tell (fun o => o.isOffered || o.bidUndelivered) d)

/-- At the CLEAR of a trip with a linked job, that entry is removed, if the table still holds it (R139); so too an entry
admitted anew under the linked job of a trip restored at power-on, of which R147 says that its CLEAR changes nothing
(log 46). -/
def completeJob (job : Option Nat) (d : Device) : Device :=
  match job.bind fun j => findOffer j d with
  | some o => removeOffer .completed true o d
  | none => d

/-! ### Base kinds -/

/-- A window is clamped to 5..60 s (R127). -/
def clampWindow (w : Nat) : Nat := max 5 (min 60 w)

/-- Zero stands for an absent pickup zone or fixed price (R127). -/
def nonZero (n : Nat) : Option Nat := if n = 0 then none else some n

/-- The booking is BOOK_PENDING or BOOKED in this zone (R93, R126). -/
def bookingIn (zone : Nat) (d : Device) : Bool :=
  match d.offers.booking with
  | .none => false
  | .pending z => z == zone
  | .booked z _ => z == zone

/-- The origin an OFFER's address gives; none for a block addressed to ALL (R126). -/
def originOf : DownAddr → Option Origin
  | .all => none
  | .short _ => some .direct
  | .zone z => some (.zone z)

/-- The origin, the forward flag and the meter state agree (R126, check 5). -/
def admissible (origin : Origin) (forward : Bool) (d : Device) : Bool :=
  match origin, forward with
  | .direct, false => d.meter.state == .forHire
  | .direct, true => (d.meter.state == .hired || d.meter.state == .stopped) && (forwardOffer d).isNone
  | .zone z, false => d.meter.state == .forHire && bookingIn z d
  | .zone _, true => false

/-- The checks of an OFFER that reaches the table (R126). -/
def admits (dest : DownAddr) (job : Nat) (forward : Bool) (pickup price : Nat) (d : Device) : Option Origin :=
  match originOf dest with
  | none => none
  | some origin =>
    if jobInRange job && decide (pickup ≤ 250) && decide (price ≤ Config.fareTop)
      && d.channel.reg == .registered && d.emergency.state == .quiet && admissible origin forward d
    then some origin else none

/-- The oldest OFFERED entry (R127). -/
def oldestOffered (d : Device) : Option Offer := d.offers.entries.find? Offer.isOffered

/-- A new entry at the end of the table, with its OFFER notice (R127). -/
def appendOffer (o : Offer) (d : Device) : Device :=
  notify (.offer .new o) { d with offers := { d.offers with entries := d.offers.entries ++ [o] } }

/-- An admitted OFFER is placed (R127). The notice of cause REPLACED carries the entry whole, which R127 says of none of its
fields (log 54). -/
def placeOffer (o : Offer) (d : Device) : Device :=
  match findOffer o.job d with
  | some old => if old.isOffered then notify (.offer .replaced o) (onOffer o.job (fun _ => o) d) else d
  | none =>
    if d.offers.entries.length < Config.offerSize then appendOffer o d
    else
      match oldestOffered d with
      | some old => appendOffer o (removeOffer .displaced true old d)
      | none => d

/-- An OFFER (R126, R127). -/
def takeOffer (dest : DownAddr) (job : Nat) (forward : Bool) (pickup window price : Nat) (d : Device) : Device :=
  match admits dest job forward pickup price d with
  | none => d
  | some origin =>
    let w := clampWindow window
    placeOffer
      { job, origin, forward, pickup := nonZero pickup, window := w, count := 10 * w, price := nonZero price
        detail0 := none, detail1 := none, detail2 := none, state := .offered } d

/-- A detail part placed on an entry (R128). -/
def withDetail (part : Nat) (chars : List Byte) (o : Offer) : Offer :=
  match part with
  | 0 => { o with detail0 := some chars }
  | 1 => { o with detail1 := some chars }
  | _ => { o with detail2 := some chars }

/-- An OFFER_DETAIL (R128). The notice of cause DETAIL carries the entry whole, its detail and state among it, where R128 names
no fields (log 54). -/
def takeDetail (job part : Nat) (chars : List Byte) (d : Device) : Device :=
  match findOffer job d with
  | some o =>
    if part ≤ 2 then
      notify (.offer .detail (withDetail part chars o)) (onOffer job (withDetail part chars) d)
    else d
  | none => d

/-- The automatic DECLINE of an AWARD, and whether it was queued (R133, R134). -/
def autoDecline (job : Nat) (reason : DeclineReason) (d : Device) : Bool × Device :=
  match ask (.decline job reason) d with
  | (.added, d') => (true, d')
  | (_, d') => (false, d')

/-- An AWARD for a job the cab does not hold is answered with a DECLINE and a JOB notice (R134). -/
def answerNotHeld (job : Nat) (d : Device) : Device :=
  let (queued, d') := autoDecline job .notHeld d
  notify (.jobNotHeld job queued) d'

/-- The role is given to an entry that may take an AWARD (R133, steps 2 and 3). -/
def giveRole (o : Offer) (d : Device) : Device :=
  if (activeOffer d).isNone then
    notify (.jobAwarded o.job .active) (onOffer o.job (fun x => { x with state := .active false }) d)
  else if (forwardOffer d).isNone then
    notify (.jobAwarded o.job .forward) (onOffer o.job (fun x => { x with state := .forward }) d)
  else
    let (queued, d') := autoDecline o.job .capacity (dropOffer o d)
    notify (.offerRemoved o.job .capacity (some queued)) d'

/-- An AWARD (R133, R134). -/
def takeAward (job : Nat) (d : Device) : Device :=
  if jobInRange job then
    match findOffer job d with
    | none => answerNotHeld job d
    | some o =>
      match o.state with
      | .bidding _ _ => giveRole o (removeBid job d)
      | .offered =>
        match o.origin with
        | .direct => giveRole o d
        | .zone _ => answerNotHeld job (removeOffer .notBid true o d)
      | _ => d
  else d

/-- A WITHDRAW (R135). -/
def takeWithdraw (job : Nat) (d : Device) : Device :=
  if jobInRange job then
    match findOffer job d with
    | some o => if o.isOpen then removeOffer .lost true o d else d
    | none => d
  else d

/-- A JOB_CANCEL (R136). -/
def takeJobCancel (job : Nat) (d : Device) : Device :=
  if jobInRange job then
    match findOffer job d with
    | some o => if o.state = .active true then flagJobCancelled d else removeOffer .cancelled true o d
    | none => d
  else d

/-- A ZONE_POSITION (R144). -/
def takeZonePosition (zone position : Nat) (d : Device) : Device :=
  if bookingIn zone d then
    if position = 0 then
      notify (.zone .none .refused)
        { d with offers := { d.offers with booking := .none, lastTold := .none, answer := none } }
    else if 255 < position ∨ d.offers.booking = .booked zone position then d
    else
      notify (.zone (.booked zone position) .position)
        { d with offers := { d.offers with booking := .booked zone position, answer := none } }
  else d

/-! ### Reports of the Uplink Queue -/

/-- A BID was delivered: the award deadline starts (R132). -/
def bidDelivered (job : Nat) (d : Device) : Device :=
  onOffer job (fun o => if o.isBidding then { o with state := .bidding true (some Config.awardDeadline) } else o) d

/-- A BID failed after its last attempt (R132). -/
def bidFailed (job : Nat) (d : Device) : Device :=
  match findOffer job d with
  | some o => if o.isBidding then removeOffer .notDelivered true o d else d
  | none => d

/-- Two bookings agree in state and zone (R145). -/
def sameBooking : Booking → Booking → Bool
  | .none, .none => true
  | .pending a, .pending b => a == b
  | .booked a _, .booked b _ => a == b
  | _, _ => false

/-- After any report on a STATUS the booking held is compared with the booking last told (R145). -/
def compareBooking (d : Device) : Device :=
  let d1 := if sameBooking d.offers.booking d.offers.lastTold then d else askStatus d
  match d1.offers.booking, d1.offers.lastTold with
  | .pending a, .pending b =>
    if a = b ∧ d1.offers.answer = none then
      { d1 with offers := { d1.offers with answer := some Config.bookingAnswer } }
    else d1
  | _, _ => d1

/-- A STATUS that carried this booking reached the base (R145). -/
def statusTold (b : Booking) (d : Device) : Device :=
  compareBooking { d with offers := { d.offers with lastTold := b } }

/-! ### Ticks -/

/-- One tick of an entry's window or deadline (R129, R132). -/
def offerTick (o : Offer) : Offer :=
  match o.state with
  | .offered => { o with count := o.count - 1 }
  | .bidding delivered (some n) => { o with state := .bidding delivered (some (n - 1)) }
  | _ => o

/-- The window of an OFFERED entry has run out (R129). -/
def windowRunOut (o : Offer) : Bool := o.isOffered && o.count == 0

/-- The award deadline of an entry has run out (R132). -/
def deadlineRunOut (o : Offer) : Bool :=
  match o.state with
  | .bidding _ (some 0) => true
  | _ => false

/-- The windows and deadlines take a tick; the entries whose count is 0 are removed (R129, R132). When both kinds end at one
tick, every EXPIRED entry is removed before any with NO_ANSWER: the model's choice (log 58). -/
def windowsTick (d : Device) : Device :=
  let d1 := { d with offers := { d.offers with entries := d.offers.entries.map offerTick } }
  removeOffers .noAnswer true deadlineRunOut (removeOffers .expired true windowRunOut d1)

/-- The end of the booking answer timer (R145). -/
def answerEnds (d : Device) : Device :=
  notify (.zone .none .noAnswer) (askStatus { d with offers := { d.offers with booking := .none, answer := none } })

/-- The booking answer timer takes a tick (R145). -/
def answerTick (d : Device) : Device :=
  match d.offers.answer with
  | none => d
  | some n => if n ≤ 1 then answerEnds d else { d with offers := { d.offers with answer := some (n - 1) } }

end Sys2Proof.Machine
end

