-- ==== Sys2Proof/Machine/Emergency.lean ====
section
/-! DEFINITION. The Emergency Controller (09): raising, answering, withdrawing and ending a call, and its timers. -/

namespace Sys2Proof.Machine

open Sys2Proof

/-- The emergency lane takes a new content (R118). -/
def setLane (l : Lane) (d : Device) : Device := { d with uplink := { d.uplink with lane := l } }

/-- The number after this one: 0 follows 255 (R163). -/
def nextRaise (n : Nat) : Nat := (n + 1) % 256

/-- The record of a raise that starts a new call; alarm sent is left as it stands (R163). -/
def raiseRecord (time : Option Reading) (e : Emergency) : Emergency :=
  { e with state := .raised, number := nextRaise e.number, time, window := Config.cancelWindow, cancelSent := 0
           track := none }

/-- A raise is taken in this state (R163, R164). -/
def raiseTaken (d : Device) : Bool := d.emergency.state == .quiet || d.emergency.state == .cancelling

/-- A raise that starts a new call: the lane, the Offer Table, the shift's count, and the EMERGENCY notice when
`fromPanic` holds and covert mode is off (R163, R165, log 12). -/
def newCall (fromPanic : Bool) (d : Device) : Device :=
  let d1 := setLane .emergency { d with emergency := raiseRecord (reading d) d.emergency }
  let d2 := onShift (fun s => { s with emergencies := satAdd Config.count8Top s.emergencies 1 }) (raiseTable d1)
  notifyIf (fromPanic && !d2.items.covert) (.emergencyPanic .raised d2.emergency.number d2.emergency.time) d2

/-- A raise from the panic debounce (R163 to R165). -/
def panicRaised (d : Device) : Device := if raiseTaken d then newCall true d else d

/-- The reply of a raise that starts a call: the new raise number and raise time (R164). -/
def raisedReply (d : Device) : ReplyData := .raised d.emergency.number d.emergency.time

/-- The ALREADY reply of a raise: the state, the current raise number and the raise time (R164). -/
def coveredReply (d : Device) : ReplyData := .raise d.emergency.state d.emergency.number d.emergency.time

/-- EMERGENCY_RAISE (R164). -/
def askRaise (body : List Byte) (d : Device) : Answer × Device :=
  withLength 0 body d
    (if raiseTaken d then
       let d1 := newCall false d
       okWith (raisedReply d1) d1
     else already (coveredReply d) d)

/-- The record at the return to QUIET: the number and the time keep their values (R174). -/
def quietRecord (e : Emergency) : Emergency :=
  { e with state := .quiet, window := 0, alarmSent := false, cancelSent := 0, track := none }

/-- A call returns to QUIET (R174). -/
def returnQuiet (d : Device) : Device := setLane .empty { d with emergency := quietRecord d.emergency }

/-- A return to QUIET that the host is told of, unless covert mode holds the notice back (R174). -/
def returnTold (cause : EmCause) (d : Device) : Device :=
  let d1 := returnQuiet d
  notifyIf (!d1.items.covert) (.emergency cause .quiet d1.emergency.number) d1

/-- The full track interval, in ticks (R169). -/
def trackInterval (d : Device) : Nat := 10 * d.items.trackInterval

/-- An EMERGENCY_ACK (R168). The notice carries the state ACKNOWLEDGED beside the cause and the number, as R174 and R177 give
it for the other causes; R168 does not name it (log 55). -/
def takeAck (raise : Nat) (d : Device) : Device :=
  if d.emergency.state = .raised ∧ raise = d.emergency.number then
    let d1 := setLane .empty
      { d with emergency := { d.emergency with state := .acknowledged, track := some (trackInterval d) } }
    notifyIf (!d1.items.covert) (.emergency .ack .acknowledged d1.emergency.number) d1
  else d

/-- An EMERGENCY_CLEAR (R170). -/
def takeClear (raise : Nat) (d : Device) : Device :=
  if d.emergency.state ≠ .quiet ∧ raise = d.emergency.number then returnTold .clear d else d

/-- A withdrawal begins (R172, case 6). -/
def beginCancelling (d : Device) : Device :=
  setLane .cancel { d with emergency := { d.emergency with state := .cancelling, cancelSent := 0, window := 0 } }

/-- EMERGENCY_CANCEL (R172). The length of its body is judged after the state (R191). The ALREADY reply of case 2 carries
the state, which R172 says of cases 5 and 6 alone (log 48). -/
def askCancel (body : List Byte) (d : Device) : Answer × Device :=
  match d.emergency.state with
  | .quiet => refuse .wrongState d
  | .cancelling => withLength 0 body d (already (.emState .cancelling) d)
  | .acknowledged => refuse .onlyBase d
  | .raised =>
    if d.emergency.window = 0 then refuse .tooLate d
    else
      withLength 0 body d
        (if d.emergency.alarmSent then okWith (.emState .cancelling) (beginCancelling d)
         else okWith (.emState .quiet) (returnQuiet d))

/-- The kinds of an emergency-lane block, as its transmission is reported (R167). -/
inductive LaneBlock where
  | emergency
  | cancel
  | track
deriving DecidableEq, Repr

/-- A CANCEL block was sent: at the tenth the call ends (R167, R173). -/
def cancelSentOne (d : Device) : Device :=
  let d1 := { d with emergency := { d.emergency with cancelSent := d.emergency.cancelSent + 1 } }
  if Config.cancelLimit ≤ d1.emergency.cancelSent then returnTold .cancelLimit d1 else d1

/-- The report of an emergency-lane transmission (R167). From a supply warning on nothing is reported (R118, R176). -/
def laneReport (b : LaneBlock) (d : Device) : Device :=
  if held d then d
  else
    match b with
    | .emergency =>
      if d.emergency.state = .quiet then d else { d with emergency := { d.emergency with alarmSent := true } }
    | .cancel => if d.emergency.state = .cancelling then cancelSentOne d else d
    | .track => d

/-- The cancel window takes a tick (R171). -/
def cancelWindowTick (d : Device) : Device :=
  { d with emergency := { d.emergency with window := d.emergency.window - 1 } }

/-- A TRACK as built at this moment (R169). -/
def trackReport (d : Device) : TrackReport :=
  { identity := (identityInForce d).cab, raiseNumber := d.emergency.number, position := sentPosition d }

/-- The track timer ends: a TRACK is set in the lane and the timer starts again (R169). -/
def trackEnds (d : Device) : Device :=
  setLane (.track (trackReport d)) { d with emergency := { d.emergency with track := some (trackInterval d) } }

/-- The track timer takes a tick (R169). -/
def trackTick (d : Device) : Device :=
  match d.emergency.track with
  | none => d
  | some n => if n ≤ 1 then trackEnds d else { d with emergency := { d.emergency with track := some (n - 1) } }

/-- The record of a new part (R177). -/
def newEmergency : Emergency :=
  { state := .quiet, number := 0, time := none, window := 0, alarmSent := false, cancelSent := 0, track := none }

/-- The record restored at power-on (R177). -/
def restoreEmergency (interval : Nat) (s : SavedEmergency) : Emergency :=
  { state := s.state, number := s.number, time := s.time, window := 0, alarmSent := s.alarmSent
    cancelSent := s.cancelSent, track := if s.state = .acknowledged then some interval else none }

/-- The lane a state gives at power-on (R122, R177). -/
def laneOf : EmState → Lane
  | .quiet => .empty
  | .raised => .emergency
  | .acknowledged => .empty
  | .cancelling => .cancel

end Sys2Proof.Machine
end

