-- ==== Sys2Proof/Machine/Store.lean ====
section
/-! DEFINITION. The Trip Store (01, R20 to R22), and the accounting records as the base receives them (12). -/

namespace Sys2Proof.Machine

open Sys2Proof

/-- One record more is lost: the lifetime count and the sticky condition (R20, R22). -/
def loseRecord (d : Device) : Device :=
  setRecordDisplaced
    (onLifetime (fun l => { l with recordsLost := satAdd Config.count16Top l.recordsLost 1 }) d)

/-- The accounting entry that refers to a record, if the queue holds one (R22, R101). -/
def entryOfRecord (number : Nat) (d : Device) : Option Entry :=
  d.uplink.entries.find? fun e => e.msg.record == some number

/-- A record leaves the store. -/
def removeRecord (number : Nat) (d : Device) : Device :=
  { d with store := { d.store with records := d.store.records.filter fun r => r.number != number } }

/-- The oldest record that is not IN_FLIGHT is displaced, with the queue's entry for it (R22). -/
def displace (d : Device) : Device :=
  match d.store.records.find? fun r => r.mark != .inFlight with
  | none => d
  | some r =>
    let d1 := loseRecord (removeRecord r.number d)
    match entryOfRecord r.number d1 with
    | some e => dropEntry e.serial d1
    | none => d1

/-- The record numbers have all been used (R20). -/
def numbersUsed (d : Device) : Bool := decide (Config.count32Top < d.store.next)

/-- Room is made for an append: at a full store the oldest record not IN_FLIGHT goes; once the record numbers have all
been used the record is lost instead (R20, R22). -/
def makeRoom (d : Device) : Device :=
  if numbersUsed d then loseRecord d
  else if Config.storeSize ≤ d.store.records.length then displace d
  else d

/-- A record takes the next number and the last place, marked WAITING, and the queue is told that a record waits
(R20). The number is 0, and nothing is stored, once the record numbers have all been used. -/
def storeRecord (body : RecordBody) (d : Device) : Nat × Device :=
  if numbersUsed d then (0, d)
  else
    let n := d.store.next
    (n, makeAccounting
      { d with store := { records := d.store.records ++ [⟨n, body, .waiting⟩], next := n + 1 } })

/-- A record has been acknowledged: it is removed, and the queue is told when a WAITING record remains (R21). -/
def recordDelivered (number : Nat) (d : Device) : Device := makeAccounting (removeRecord number d)

/-! ### The records as bytes (12, The accounting records) -/

/-- A flag as a bit of a byte. -/
def bit (b : Bool) (value : Nat) : Nat := if b then value else 0

/-- The tariffs-used set, one bit per tariff from the lowest. -/
def UsedSet.bits (u : UsedSet) : Nat := bit u.one 1 + bit u.two 2 + bit u.three 4 + bit u.four 8

/-- The flags byte of a trip record. -/
def TripFlags.byte (f : TripFlags) : Nat :=
  bit f.fareCapped 1 + bit f.extrasCapped 2 + bit f.sensorFault 4 + bit f.distanceImplausible 8
    + bit f.powerInterrupted 16 + bit f.fixedPrice 32 + bit f.jobCancelled 64

/-- A position as eight bytes. -/
def writePosition (p : Position) : List Byte :=
  writeBytes 4 (unsigned32 p.latitude) ++ writeBytes 4 (unsigned32 p.longitude)

/-- The 56 bytes of a trip record (12, The accounting records). -/
def TripRecord.bytes (number : Nat) (r : TripRecord) : List Byte :=
  writeBytes 4 number
    ++ writeBytes 1 (16 * r.used.bits + 1)
    ++ writeBytes 1 (bit r.job.isSome 1 + bit r.start.isSome 2 + bit r.stop.isSome 4 + bit r.startPosition.isSome 8
        + bit r.endPosition.isSome 16 + 32)
    ++ writeBytes 1 r.flags.byte
    ++ writeBytes 4 r.trip
    ++ writeOption 3 (writeBytes 3) r.job
    ++ writeOption 5 writeTime r.start
    ++ writeOption 5 writeTime r.stop
    ++ writeOption 8 writePosition r.startPosition
    ++ writeOption 8 writePosition r.endPosition
    ++ writeBytes 2 r.revision
    ++ writeBytes 3 r.fare
    ++ writeBytes 3 r.extras
    ++ writeBytes 4 r.hiredMetres
    ++ writeBytes 4 r.hiredSeconds

/-- The 56 bytes of a shift record (12, The accounting records). -/
def ShiftRecord.bytes (number : Nat) (r : ShiftRecord) : List Byte :=
  padTo 56 (writeBytes 4 number
    ++ writeBytes 1 2
    ++ writeBytes 1 (bit r.opened.isSome 2 + bit r.closed.isSome 4)
    ++ writeBytes 1 0
    ++ writeBytes 2 r.shift
    ++ writeBytes 2 r.trips
    ++ writeOption 5 writeTime r.opened
    ++ writeOption 5 writeTime r.closed
    ++ writeBytes 4 r.totalMetres
    ++ writeBytes 4 r.hiredMetres
    ++ writeBytes 4 r.fareTotal
    ++ writeBytes 4 r.extrasTotal
    ++ writeBytes 1 r.unmetered
    ++ writeBytes 1 r.emergencies
    ++ writeBytes 2 r.recordsLost)

/-- The 56 bytes of a record, read from the Trip Store at each transmission (R101). -/
def Stored.bytes (r : Stored) : List Byte :=
  match r.body with
  | .trip t => t.bytes r.number
  | .shift t => t.bytes r.number

/-- The 28 bytes of a record that go in one block (12, The accounting records). -/
def recordPart (number index : Nat) (d : Device) : List Byte :=
  match d.store.records.find? fun r => r.number == number with
  | some r => (r.bytes.drop (28 * index)).take 28
  | none => []

end Sys2Proof.Machine
end

