-- ==== Sys2Proof/Machine/Tariffs.lean ====
section
/-! DEFINITION. The Tariff Store (04): derived sizes, the schedule and its evaluation, the load sequence, the whole-set
checks, and the calibration switch. -/

namespace Sys2Proof.Machine

open Sys2Proof

/-! ### Derived step sizes (R27, R28) -/

/-- A distance in metres as edges, rounded to the nearest edge, halves upward (R27). -/
def edgesOf (k metres : Nat) : Nat := (metres * k + 500) / 1000

/-- The derived sizes of a tariff (R27). -/
def derive (k : Nat) (t : Tariff) : Derived :=
  let np := edgesOf k t.ds
  let nt := 10 * t.ts
  let np0 := if t.d0 = 0 then 0 else edgesOf k t.d0
  let nt0 := 10 * t.t0
  { np, nt, theta := np * nt, np0, nt0, theta0 := np0 * nt0 }

/-- The derived sizes of every tariff of a set (R27). -/
def deriveAll (k : Nat) (ts : List (Option Tariff)) : List (Option Derived) := ts.map fun t => t.map (derive k)

/-- A size passes the step range check (R28). -/
def sizeInRange (n : Nat) : Bool := decide (1 ≤ n ∧ n ≤ 65535)

/-- What the step range check finds against tariff `n`: Np before Np0 (R28). -/
def stepRangeFault (k : Nat) (n : Nat) (t : Tariff) : Option CommitFault :=
  if !sizeInRange (derive k t).np then some (.np n)
  else if t.d0 != 0 && !sizeInRange (derive k t).np0 then some (.np0 n)
  else none

/-- Tariff `n` of a set, 1..4. -/
def tariffAt (ts : List (Option Tariff)) (n : Nat) : Option Tariff := if n = 0 then none else place ts (n - 1)

/-- The derived sizes of tariff `n` of the set in force. -/
def derivedAt (n : Nat) (d : Device) : Option Derived := if n = 0 then none else place d.tariff.derived (n - 1)

/-! ### Schedule evaluation (R69 to R71) -/

/-- A band applies on this day: 0 Monday .. 6 Sunday, 7 HOLIDAY. -/
def Band.onDay (b : Band) (day : Nat) : Bool := b.days.getLsbD day

/-- The later of two candidate bands by start minute. -/
def laterBand (best : Option Band) (b : Band) : Option Band :=
  match best with
  | none => some b
  | some c => if c.start ≤ b.start then some b else some c

/-- The day whose bands are the candidates: HOLIDAY on a marked date when any band names it, else the day of week
(R69, step 1). -/
def scheduleDay (schedule : List Band) (day : Nat) (holiday : Bool) : Nat :=
  if holiday && schedule.any (fun b => b.onDay 7) then 7 else day % 7

/-- The result of the schedule under a SET clock (R69). -/
def bandResult (set : TariffSet) (t : ClockTime) (holiday : Bool) : Nat :=
  let day := scheduleDay set.schedule t.day holiday
  let candidates := set.schedule.filter fun b => b.onDay day && decide (b.start ≤ t.second / 60)
  match candidates.foldl laterBand none with
  | some b => b.tariff
  | none => set.default

/-- The result of a schedule evaluation: a tariff number or none (R69). -/
def scheduleResult (d : Device) : Option Nat :=
  match d.tariff.inForce with
  | none => none
  | some set =>
    if set.schedule = [] then none
    else
      match d.vehicle.calendar.time with
      | none => some set.default
      | some t => some (bandResult set t d.vehicle.calendar.holiday)

/-- The meter takes a result in HIRED: it sets or clears the pending tariff, never on a fixed-price or capped trip
(R9, R34, R70). -/
def takeResult (r : Option Nat) (t : Trip) : Trip :=
  match r with
  | none => t
  | some n =>
    if t.fixedPrice.isSome || t.flags.fareCapped then t
    else { t with pendingTariff := if n = t.tariff then none else some n }

/-- The result changes nothing for a HIRED meter: it is the one already held (R70), or it names the tariff that the tick
taken before it has just replaced, whose pending successor it would have cleared (R36, log 41). -/
def resultSpent (r : Option Nat) (d : Device) : Bool :=
  r == d.tariff.scheduled || (r.isSome && r == d.meter.replaced)

/-- A HIRED meter is handed a result; what the last tick replaced is forgotten, since this evaluation has been taken
(R36, R70). -/
def handResult (r : Option Nat) (d : Device) : Device :=
  setReplaced none (if resultSpent r d then d else onTrip (takeResult r) d)

/-- A schedule evaluation: the result is handed to a HIRED meter and replaces the scheduled tariff (R69, R70). -/
def evaluate (d : Device) : Device :=
  let r := scheduleResult d
  let d1 := if d.meter.state = .hired then handResult r d else d
  { d1 with tariff := { d1.tariff with scheduled := r } }

/-! ### The staging set (R60 to R65) -/

/-- The staging set of a load begun with no set in force (R60). -/
def emptyStaging : Staging :=
  { k := none, tariffs := [none, none, none, none], default := none, schedule := []
    supplements := [none, none, none, none, none, none, none, none], decimals := 0, identity := none }

/-- A set in force as a staging set, item for item (R60). -/
def TariffSet.toStaging (s : TariffSet) : Staging :=
  { k := some s.k, tariffs := s.tariffs, default := some s.default, schedule := s.schedule
    supplements := s.supplements, decimals := s.decimals, identity := some s.identity }

/-- The earliest day of a day set, Monday 0 .. HOLIDAY 7 (R64). -/
def Band.firstDay (b : Band) : Nat := ((List.range 8).find? fun i => b.onDay i).getD 8

/-- The order of the schedule: start minute, then earliest day (R64). -/
def Band.before (a b : Band) : Bool :=
  decide (a.start < b.start) || (a.start == b.start && decide (a.firstDay ≤ b.firstDay))

/-- A band placed in its order among the bands held (R64). -/
def insertBand (b : Band) : List Band → List Band
  | [] => [b]
  | c :: cs => if c.before b then c :: insertBand b cs else b :: c :: cs

/-- A new band clashes with a band held: same start minute and a day in common (R64). -/
def clashes (b c : Band) : Bool := b.start == c.start && (b.days &&& c.days) != 0

/-- The first band, in schedule order, that names a tariff absent from the set (R65, check 4). -/
def orphanBand (ts : List (Option Tariff)) (bs : List Band) : Option Nat :=
  bs.findIdx? fun b => (tariffAt ts b.tariff).isNone

/-- The label of the supplement at an index, if one is present. -/
def labelAt (sup : List (Option Supplement)) (i : Nat) : Option Nat := (place sup i).map Supplement.label

/-- An earlier present supplement has the same label (R65, check 5). -/
def labelRepeated (sup : List (Option Supplement)) (j : Nat) : Bool :=
  (labelAt sup j).isSome && (List.range j).any fun i => labelAt sup i == labelAt sup j

/-- The higher index of the pair of like labels whose higher index is smallest (R65, check 5). -/
def repeatedLabel (sup : List (Option Supplement)) : Option Nat :=
  (List.range 8).find? fun j => labelRepeated sup j

/-- The first failing tariff of the step range check (R28, R65 check 6). -/
def firstStepFault (k : Nat) (ts : List (Option Tariff)) : Option CommitFault :=
  [1, 2, 3, 4].findSome? fun n => (tariffAt ts n).bind (stepRangeFault k n)

/-- The whole-set checks in order: the complete set, or the refusal with the item that failed (R65). -/
def checkSet (s : Staging) : Except (Result × CommitFault) TariffSet :=
  match s.k, s.identity, s.default with
  | none, _, _ => .error (.incomplete, .calibration)
  | some _, none, _ => .error (.incomplete, .identity)
  | some _, some _, none => .error (.incomplete, .default)
  | some k, some identity, some n =>
    if (tariffAt s.tariffs n).isNone then .error (.incomplete, .default)
    else
      match orphanBand s.tariffs s.schedule with
      | some i => .error (.incomplete, .band i)
      | none =>
        match repeatedLabel s.supplements with
        | some i => .error (.incomplete, .supplement i)
        | none =>
          match firstStepFault k s.tariffs with
          | some f => .error (.stepRange, f)
          | none =>
            .ok { k, tariffs := s.tariffs, default := n, schedule := s.schedule, supplements := s.supplements
                  decimals := s.decimals, identity }

/-! ### The calibration switch (R59, R61) -/

/-- A load is abandoned because the switch went LOCKED (R61). -/
def abortLoad (d : Device) : Device :=
  if d.tariff.load.isSome then
    notify .loadAborted (setLoadAborted { d with tariff := { d.tariff with load := none } })
  else d

/-- The taken state of the switch changes (R59, R61). The SWITCH notice comes before the LOAD_ABORTED notice of the load that a
change to LOCKED abandons: the model's choice (log 60). -/
def switchTo (isOpen : Bool) (d : Device) : Device :=
  let d1 := notify (.switch isOpen) { d with tariff := { d.tariff with switch := ⟨isOpen, 0⟩ } }
  if isOpen then onLifetime (fun l => { l with switchOpenings := satAdd Config.count16Top l.switchOpenings 1 }) d1
  else abortLoad d1

/-- One sample of the switch input, true for OPEN (R59). -/
def sampleSwitch (isOpen : Bool) (d : Device) : Device :=
  let sw := d.tariff.switch
  if isOpen = sw.isOpen then { d with tariff := { d.tariff with switch := { sw with count := 0 } } }
  else if sw.count + 1 < 5 then { d with tariff := { d.tariff with switch := { sw with count := sw.count + 1 } } }
  else switchTo isOpen d

end Sys2Proof.Machine
end

