-- ==== Sys2Proof/Machine/Meter.lean ====
section
/-! DEFINITION. The Fare Meter's own operations: changes of state, the fare arithmetic of one tick (02), the distance
totals, the occupancy check (R23), and the making of trips and records. -/

namespace Sys2Proof.Machine

open Sys2Proof

/-! ### Changes of meter state -/

/-- A held sensor fault is cleared when the meter enters FOR_HIRE or OFF_DUTY; the window starts empty (R46). Edges counted
after the clearing reach the meter at the tick that closes, also where the fault was raised within that same tick, for
which R45 gives p as 0 (log 52). -/
def clearFault (d : Device) : Device :=
  if d.vehicle.fault then { d with vehicle := { d.vehicle with fault := false, phaseErrors := emptyWindow } } else d

/-- The unmetered count resets (R23). -/
def resetUnmetered (d : Device) : Device := { d with vehicle := { d.vehicle with unmetered := .reset } }

/-- A change of meter state, told at the moment it happens: Vehicle Inputs clears a fault on entry to FOR_HIRE or
OFF_DUTY, the occupancy count resets when FOR_HIRE is left, and a STATUS is asked for (R17, R23, R46). -/
def meterTo (st : MeterState) (d : Device) : Device :=
  let d1 := { d with meter := { d.meter with state := st } }
  let d2 := if st = .forHire ∨ st = .offDuty then clearFault d1 else d1
  let d3 := if d.meter.state = .forHire then resetUnmetered d2 else d2
  askStatus d3

/-! ### The accrual of one tick (R29 to R36) -/

/-- A tariff number joins the tariffs-used set. -/
def UsedSet.add (n : Nat) (u : UsedSet) : UsedSet :=
  { one := u.one || n == 1, two := u.two || n == 2, three := u.three || n == 3, four := u.four || n == 4 }

/-- The pending tariff, if one is held, is installed at a step boundary (R35). -/
def install (t : Trip) : Trip :=
  match t.pendingTariff with
  | none => t
  | some n =>
    { t with tariff := n, accumulator := 0, phase := .normal, used := t.used.add n, pendingTariff := none }

/-- The step that would carry the fare past its top (R34). -/
def capStep (theta : Nat) (t : Trip) : Trip :=
  { t with fare := Config.fareTop, accumulator := t.accumulator - theta, pendingTariff := none
           flags := { t.flags with fareCapped := true } }

/-- An ordinary step (R33). -/
def oneStep (theta amount : Nat) (t : Trip) : Trip :=
  { t with fare := t.fare + amount, accumulator := t.accumulator - theta }

/-- Steps are taken while the accumulator holds one; the cap or an installation ends them (R33 to R35). The first
argument bounds the number of steps. -/
def takeSteps (theta amount : Nat) : Nat → Trip → Trip
  | 0, t => t
  | n + 1, t =>
    if t.accumulator < theta then t
    else if Config.fareTop < t.fare + amount then capStep theta t
    else if t.pendingTariff.isSome then install (oneStep theta amount t)
    else takeSteps theta amount n (oneStep theta amount t)

/-- The addition of a tick from a distance and a time contribution (R30, R32). -/
def addition (mode : TariffMode) (distance time : Nat) : Nat :=
  match mode with
  | .s => max distance time
  | .d => distance + time

/-- The accrual in INITIAL (R30, R31). -/
def accrueInitial (mode : TariffMode) (z : Derived) (p : Nat) (t : Trip) : Trip :=
  let acc := t.accumulator + addition mode (p * z.nt0) z.np0
  if z.theta0 ≤ acc then install { t with phase := .normal, accumulator := 0 } else { t with accumulator := acc }

/-- The accrual in NORMAL (R32 to R35). -/
def accrueNormal (mode : TariffMode) (z : Derived) (amount p : Nat) (t : Trip) : Trip :=
  let acc := t.accumulator + addition mode (p * z.nt) z.np
  takeSteps z.theta amount (acc / z.theta + 1) { t with accumulator := acc }

/-- One tick's accrual under a tariff; skipped for a fixed-price and for a capped trip (R29). -/
def accrue (tariff : Tariff) (z : Derived) (p : Nat) (t : Trip) : Trip :=
  if t.fixedPrice.isSome || t.flags.fareCapped then t
  else
    match t.phase with
    | .initial => accrueInitial tariff.mode z p t
    | .normal => accrueNormal tariff.mode z tariff.stepAmount p t

/-- The tariff an accrual took out of force, if it installed another (R35, R36). -/
def replacedBy (before after : Trip) : Option Nat := if after.tariff = before.tariff then none else some before.tariff

/-- The accrual on the trip in progress, with the tariff in force and its derived sizes (R29); what an installation took out
of force is noted until the next tick (R36). -/
def accrueTrip (p : Nat) (d : Device) : Device :=
  match d.meter.trip, d.tariff.inForce with
  | some t, some set =>
    match tariffAt set.tariffs t.tariff, derivedAt t.tariff d with
    | some tariff, some z =>
      let after := accrue tariff z p t
      { d with meter := { d.meter with trip := some after, replaced := replacedBy t after } }
    | _, _ => d
  | _, _ => d

/-! ### Distance totals (R7, R37) -/

/-- The lifetime total metres take `p` (R7, R37). -/
def lifetimeTotal (p : Nat) (d : Device) : Device :=
  let (m, r) := advance (kInForce d) p Config.count32Top d.tariff.lifetime.totalMetres d.tariff.totalResidue
  { d with tariff := { d.tariff with lifetime := { d.tariff.lifetime with totalMetres := m }, totalResidue := r } }

/-- The lifetime hired metres take `p` (R7, R37). -/
def lifetimeHired (p : Nat) (d : Device) : Device :=
  let (m, r) := advance (kInForce d) p Config.count32Top d.tariff.lifetime.hiredMetres d.tariff.hiredResidue
  { d with tariff := { d.tariff with lifetime := { d.tariff.lifetime with hiredMetres := m }, hiredResidue := r } }

/-- The shift total metres take `p` (R7, R37). -/
def shiftTotal (k p : Nat) (s : Shift) : Shift :=
  let (m, r) := advance k p Config.count32Top s.totalMetres s.totalResidue
  { s with totalMetres := m, totalResidue := r }

/-- The shift hired metres take `p` (R7, R37). -/
def shiftHired (k p : Nat) (s : Shift) : Shift :=
  let (m, r) := advance k p Config.count32Top s.hiredMetres s.hiredResidue
  { s with hiredMetres := m, hiredResidue := r }

/-- The trip counts a tick of HIRED: its raw edges and the tick (R7, R40). -/
def countTrip (p : Nat) (t : Trip) : Trip :=
  { t with hiredEdges := satAdd Config.count32Top t.hiredEdges p, hiredTicks := t.hiredTicks + 1 }

/-! ### The occupancy check (R23, R41) -/

/-- The check counts in this state: the item is on, the meter FOR_HIRE, the taken level active, not stopped. -/
def checkCounts (d : Device) : Bool :=
  d.items.occupancyCheck && d.meter.state == .forHire && d.vehicle.occupancy.taken && !d.vehicle.unmetered.stopped

/-- The unmetered count after it takes `p`: when it reaches 200 it stands there and stops, and the metres beyond 200 and
the residue are kept (R41). -/
def countUnmetered (k p : Nat) (c : OccupancyCount) : OccupancyCount :=
  let total := c.distance + (c.residue + p * 1000) / k
  let residue := (c.residue + p * 1000) % k
  if Config.unmeteredTop ≤ total then ⟨Config.unmeteredTop, residue, true, total - Config.unmeteredTop⟩
  else ⟨total, residue, false, 0⟩

/-- One UNMETERED event (R23). -/
def unmeteredEvent (d : Device) : Device :=
  notify .unmetered
    (askUnmetered (onShift (fun s => { s with unmetered := satAdd Config.count8Top s.unmetered 1 }) d))

/-- The occupancy check takes the edges of a tick (R23, R41). -/
def occupancyTick (p : Nat) (d : Device) : Device :=
  if checkCounts d then
    let c := countUnmetered (kInForce d) p d.vehicle.unmetered
    let d1 := { d with vehicle := { d.vehicle with unmetered := c } }
    if c.stopped then unmeteredEvent d1 else d1
  else d

/-! ### The meter's tick (R7) -/

/-- The resume window, if open, counts down one tick (R11). -/
def windowTick (d : Device) : Device := { d with meter := { d.meter with window := d.meter.window - 1 } }

/-- The meter's work at a tick with `p` usable edges (R7). -/
def meterTick (p : Nat) (d : Device) : Device :=
  match d.meter.state with
  | .uncalibrated => d
  | .offDuty => lifetimeTotal p d
  | .forHire => occupancyTick p (onShift (shiftTotal (kInForce d) p) (lifetimeTotal p d))
  | .hired =>
    let k := kInForce d
    let d1 := onShift (fun s => shiftHired k p (shiftTotal k p s)) (lifetimeHired p (lifetimeTotal p d))
    accrueTrip p (onTrip (countTrip p) (setReplaced none d1))
  | .stopped => windowTick (onShift (shiftTotal (kInForce d) p) (lifetimeTotal p d))

/-! ### Making a trip (R4 to R6, R71) -/

/-- The tariff number a HIRE carries is judged against the schedule (R4): a refusal, or the tariff the trip starts
under. -/
def hireTariff (given : Option Nat) (set : TariffSet) (result : Option Nat) : Except Result Nat :=
  match given, result with
  | none, none => .ok set.default
  | none, some n => .ok n
  | some _, some _ => .error .notPermitted
  | some n, none =>
    if n < 1 ∨ 4 < n then .error .outOfRange
    else if (tariffAt set.tariffs n).isNone then .error .notFound
    else .ok n

/-- The trip number of a new trip (R5). -/
def tripNumber (d : Device) : Nat := satAdd Config.count32Top d.tariff.lifetime.trips 1

/-- The trip context created at HIRE (R5, R6): `job` is the ACTIVE entry, if one is held. -/
def newTrip (n : Nat) (t : Tariff) (job : Option Offer) (d : Device) : Trip :=
  let price := job.bind Offer.price
  { number := tripNumber d
    start := reading d
    startPosition := freshPosition d
    tariff := n
    used := UsedSet.add n ⟨false, false, false, false⟩
    phase := if t.d0 ≠ 0 ∧ t.t0 ≠ 0 then .initial else .normal
    accumulator := 0
    pendingTariff := none
    fare := price.getD t.flagFall
    extras := 0
    hiredEdges := 0
    hiredTicks := 0
    fixedPrice := price
    job := job.map Offer.job
    stop := none
    flags := { TripFlags.clear with sensorFault := d.vehicle.fault, fixedPrice := price.isSome } }

/-- A HIRE that is taken (R5, R6, R71, R138): the evaluation's result replaces the scheduled tariff, the context is
created and the ACTIVE job becomes IN_TRIP, the meter goes to HIRED, and the table gives up its non-forward offers and
the booking. The STATUS for the change of state is asked for before the table gives up its entries, so it comes before any
room that their BIDs leave: the model's choice, since neither R17 nor R138 orders the two (log 57). -/
def startTrip (n : Nat) (t : Tariff) (d : Device) : Device :=
  let d1 := evaluate d
  let job := activeOffer d1
  let trip := newTrip n t job d1
  let d2 := match job with
    | some o => onOffer o.job (fun x => { x with state := .active true }) d1
    | none => d1
  let d3 := { d2 with meter := { d2.meter with trip := some trip, window := 0 } }
  refresh (hireTable (meterTo .hired d3))

/-! ### Records (R14, R16) -/

/-- The trip record made at CLEAR (R14). -/
def tripRecord (t : Trip) (d : Device) : TripRecord :=
  { trip := t.number
    job := t.job
    start := t.start
    stop := reading d
    startPosition := t.startPosition
    endPosition := freshPosition d
    revision := d.tariff.revision
    used := t.used
    fare := t.fare
    extras := t.extras
    hiredMetres := metresOf (kInForce d) t.hiredEdges
    hiredSeconds := t.hiredTicks / 10
    flags := t.flags }

/-- The shift record made at SHIFT_CLOSE; records lost is read after any displacement the append causes (R16). -/
def shiftRecord (s : Shift) (d : Device) : ShiftRecord :=
  { shift := s.number
    opened := s.opened
    closed := reading d
    trips := s.trips
    totalMetres := s.totalMetres
    hiredMetres := s.hiredMetres
    fareTotal := s.fareTotal
    extrasTotal := s.extrasTotal
    unmetered := s.unmetered
    emergencies := s.emergencies
    recordsLost := d.tariff.lifetime.recordsLost }

/-- The shift totals take a finished trip (R13, step 3). -/
def shiftTakesTrip (t : Trip) (s : Shift) : Shift :=
  { s with trips := satAdd Config.count16Top s.trips 1
           fareTotal := satAdd Config.count32Top s.fareTotal t.fare
           extrasTotal := satAdd Config.count32Top s.extrasTotal t.extras }

/-- The lifetime totals take a finished trip (R13, step 4). -/
def lifetimeTakesTrip (t : Trip) (l : Lifetime) : Lifetime :=
  { l with trips := satAdd Config.count32Top l.trips 1
           fareSum := satAdd Config.sum40Top l.fareSum t.fare
           extrasSum := satAdd Config.sum40Top l.extrasSum t.extras }

/-- The six steps of a CLEAR, with the number the Trip Store gave the record (R13). -/
def clearTrip (t : Trip) (d : Device) : Nat × Device :=
  let d1 := { d with meter := { d.meter with window := 0 } }
  let d2 := makeRoom d1
  let (number, d3) := storeRecord (.trip (tripRecord t d1)) d2
  let d4 := onLifetime (lifetimeTakesTrip t) (onShift (shiftTakesTrip t) d3)
  let d5 := completeJob t.job d4
  (number, refresh (meterTo .forHire { d5 with meter := { d5.meter with trip := none } }))

/-- The steps of a SHIFT_CLOSE, with the number the Trip Store gave the record (R16, R139). The open offers go between the
record and the booking, a place that R139 does not give (log 57). -/
def closeShift (s : Shift) (d : Device) : Nat × Device :=
  let d1 := makeRoom d
  let (number, d2) := storeRecord (.shift (shiftRecord s d1)) d1
  let d3 := closeTable d2
  (number, refresh (meterTo .offDuty { d3 with meter := { d3.meter with shift := none } }))

/-- The shift number after this one: 1 follows 65,535 (R3). -/
def nextShift (n : Nat) : Nat := if Config.count16Top ≤ n then 1 else n + 1

/-- The shift totals of a new shift (R3). -/
def newShift (n : Nat) (d : Device) : Shift :=
  { number := n, opened := reading d, trips := 0, totalMetres := 0, hiredMetres := 0, fareTotal := 0, extrasTotal := 0
    unmetered := 0, emergencies := 0, totalResidue := 0, hiredResidue := 0 }

/-- A shift is opened (R3). -/
def openShift (d : Device) : Device :=
  let n := nextShift d.meter.lastShift
  let d1 := { d with meter := { d.meter with lastShift := n, shift := some (newShift n d) } }
  refresh (meterTo .forHire d1)

/-- A trip is stopped on the road (R10). -/
def stopTrip (d : Device) : Device :=
  let d1 := setReplaced none (onTrip (fun t => { t with pendingTariff := none, stop := reading d }) d)
  refresh (meterTo .stopped { d1 with meter := { d1.meter with window := Config.resumeWindow } })

/-- The pending tariff a RESUME sets from the scheduled tariff held (R11, R71). -/
def resumePending (d : Device) (t : Trip) : Trip :=
  if t.fixedPrice.isSome || t.flags.fareCapped then t
  else
    match d.tariff.inForce, d.tariff.scheduled with
    | some set, some n =>
      if set.schedule ≠ [] ∧ n ≠ t.tariff then { t with pendingTariff := some n } else t
    | _, _ => t

/-- A stopped trip goes on (R11, R8). -/
def resumeTrip (d : Device) : Device :=
  let back (t : Trip) : Trip :=
    resumePending d { t with stop := none
                             flags := { t.flags with sensorFault := t.flags.sensorFault || d.vehicle.fault } }
  let d1 := onTrip back { d with meter := { d.meter with window := 0 } }
  refresh (meterTo .hired d1)

/-- A supplement's amount is added to the extras, capped (R12). -/
def addExtra (amount : Nat) (t : Trip) : Trip :=
  if Config.extrasTop < t.extras + amount then
    { t with extras := Config.extrasTop, flags := { t.flags with extrasCapped := true } }
  else { t with extras := t.extras + amount }

end Sys2Proof.Machine
end

