-- ==== Sys2Proof/Machine/Vehicle.lean ====
section
/-! DEFINITION. Vehicle Inputs (03): the wheel sensor decoder, usable edges, the calendar clock, the panic and occupancy
inputs and the position fix record. -/

namespace Sys2Proof.Machine

open Sys2Proof

/-! ### The wheel sensor decoder (R44, R45, R47) -/

/-- How a change of the wheel sensor inputs counts (R44). -/
inductive Change where
  | none
  | forward
  | reverse
  | phaseError
deriving DecidableEq, Repr

/-- A change judged in QUADRATURE mode against the pair held (R44). -/
def judgeQuadrature (pairA pairB a b : Bool) : Change :=
  if a != pairA then
    if b != pairB then .phaseError else if a != b then .forward else .reverse
  else if b != pairB then
    if a == b then .forward else .reverse
  else .none

/-- A change judged in SINGLE mode: the rising changes of A alone are forward (R47). -/
def judgeSingle (pairA a : Bool) : Change := if !pairA && a then .forward else .none

/-- A change of the wheel sensor inputs to the levels `a` and `b` (R44, R47). -/
def judgeChange (mode : SensorMode) (v : Vehicle) (a b : Bool) : Change :=
  match mode with
  | .quadrature => judgeQuadrature v.pairA v.pairB a b
  | .single => judgeSingle v.pairA a

/-- A sensor fault is raised: edges of the tick in progress are discarded and the window is emptied (R45). -/
def raiseFault (d : Device) : Device :=
  let d1 := { d with vehicle := { d.vehicle with fault := true, phaseErrors := emptyWindow, forward := 0, reverse := 0 } }
  notify .sensorFault (setSensorFault (flagSensorFault d1))

/-- One phase error more in the tick in progress (R45). -/
def addPhaseError : List Nat → List Nat
  | n :: rest => (n + 1) :: rest
  | [] => [1]

/-- A phase error is counted and the window's sum tested (R45). -/
def countPhaseError (d : Device) : Device :=
  let window := addPhaseError d.vehicle.phaseErrors
  let d1 := { d with vehicle := { d.vehicle with phaseErrors := window } }
  if Config.phaseErrorLimit ≤ window.sum then raiseFault d1 else d1

/-- A forward edge (R44). -/
def countForward (d : Device) : Device :=
  { d with vehicle := { d.vehicle with forward := satAdd Config.count16Top d.vehicle.forward 1 } }

/-- A reverse edge (R44). -/
def countReverse (d : Device) : Device :=
  { d with vehicle := { d.vehicle with reverse := satAdd Config.count16Top d.vehicle.reverse 1 } }

/-- A judged change is counted; nothing is counted while a sensor fault is held (R44, R45). -/
def countChange (c : Change) (d : Device) : Device :=
  if d.vehicle.fault then d
  else
    match c with
    | .none => d
    | .forward => countForward d
    | .reverse => countReverse d
    | .phaseError => countPhaseError d

/-- The decoder's pair becomes the new pair after each change (R44). -/
def setPair (a b : Bool) (d : Device) : Device :=
  { d with vehicle := { d.vehicle with pairA := a, pairB := b } }

/-- The levels of the wheel sensor inputs. -/
def setWheelPins (a b : Bool) (d : Device) : Device := { d with pins := { d.pins with a := a, b := b } }

/-- The wheel sensor inputs change to the levels `a` and `b` (R44, R47). From a supply warning on no edge is counted
(R49). -/
def wheelChange (a b : Bool) (d : Device) : Device :=
  if held d then setWheelPins a b d
  else countChange (judgeChange d.items.sensorMode d.vehicle a b) (setPair a b (setWheelPins a b d))

/-- The sensor mode changes: the pair is the present levels, the window is emptied (R47). -/
def changeSensorMode (m : SensorMode) (d : Device) : Device :=
  let d1 := { d with items := { d.items with sensorMode := m } }
  if m = d.items.sensorMode then d1
  else
    { d1 with vehicle :=
        { d1.vehicle with pairA := d1.pins.a, pairB := d1.pins.b, phaseErrors := emptyWindow } }

/-! ### Usable edges (R48) -/

/-- What a tick makes of its edges: the debt, p, and whether the tick is implausible (R48). -/
structure Usable where
  debt : Nat
  p : Nat
  implausible : Bool
deriving DecidableEq, Repr

/-- The four steps of R48. -/
def usableEdges (f r debt : Nat) : Usable :=
  let owed := min Config.debtTop (debt + r)
  let u := f - min f owed
  { debt := owed - min f owed, p := min u Config.edgesTop, implausible := decide (Config.edgesTop < u) }

/-- The usable edges of the tick in progress: none while a sensor fault is held, and the debt unchanged (R45, R48). -/
def usableNow (d : Device) : Usable :=
  if d.vehicle.fault then { debt := d.vehicle.debt, p := 0, implausible := false }
  else usableEdges d.vehicle.forward d.vehicle.reverse d.vehicle.debt

/-- The window moves on by one tick (R45). -/
def rollWindow (w : List Nat) : List Nat := 0 :: w.take 9

/-- An implausible tick (R48). -/
def implausibleTick (first : Bool) (d : Device) : Device :=
  notifyIf first .distanceImplausible (setDistanceImplausible (flagImplausible d))

/-- The edge counts of the tick close: p, and the part with the debt, the window and the implausible mark renewed
(R45, R48). -/
def closeEdges (d : Device) : Nat × Device :=
  let u := usableNow d
  let d1 := { d with vehicle :=
    { d.vehicle with
      forward := 0, reverse := 0, debt := u.debt, implausible := u.implausible
      phaseErrors := rollWindow d.vehicle.phaseErrors } }
  (u.p, if u.implausible then implausibleTick (!d.vehicle.implausible) d1 else d1)

/-- The usable edges of the tick in progress would bring the unmetered distance to 200 m (R41). -/
def unmeteredDue (d : Device) : Bool :=
  checkCounts d && (countUnmetered (kInForce d) (usableNow d).p d.vehicle.unmetered).stopped

/-! ### The calendar clock (R50 to R53) -/

/-- The clock takes a value. -/
def setClock (t : Option ClockTime) (holiday : Bool) (d : Device) : Device :=
  { d with vehicle := { d.vehicle with calendar := ⟨t, holiday⟩ } }

/-- A SET clock enters a new day, or becomes UNSET past the last day number (R50). -/
def nextDay (day : Nat) (d : Device) : Device :=
  if Config.count16Top ≤ day then evaluate (setClock none false d)
  else evaluate (setClock (some ⟨day + 1, 0, 0⟩) false d)

/-- A SET clock enters its next second (R50). -/
def nextSecond (t : ClockTime) (d : Device) : Device :=
  if Config.daySeconds ≤ t.second + 1 then nextDay t.day d
  else
    let d1 := setClock (some ⟨t.day, t.second + 1, 0⟩) d.vehicle.calendar.holiday d
    if (t.second + 1) % 60 = 0 then evaluate d1 else d1

/-- The clock takes a tick (R50). -/
def clockTick (d : Device) : Device :=
  match d.vehicle.calendar.time with
  | none => d
  | some t =>
    if 10 ≤ t.tick + 1 then nextSecond t d
    else setClock (some { t with tick := t.tick + 1 }) d.vehicle.calendar.holiday d

/-- The coming tick would make a minute change of the clock (R50). -/
def minuteDue (d : Device) : Bool :=
  match d.vehicle.calendar.time with
  | none => false
  | some t => decide (10 ≤ t.tick + 1) && decide ((t.second + 1) % 60 = 0)
      && !(decide (Config.count16Top ≤ t.day) && decide (Config.daySeconds ≤ t.second + 1))

/-- The coming tick would carry the day number past its range (R50). -/
def dayRangeDue (d : Device) : Bool :=
  match d.vehicle.calendar.time with
  | none => false
  | some t => decide (10 ≤ t.tick + 1) && decide (Config.daySeconds ≤ t.second + 1) && decide (Config.count16Top ≤ t.day)

/-- A clock that ran through an outage of `ticks` ticks, without minute changes (R51). -/
def clockThrough (ticks : Nat) (c : Calendar) : Calendar :=
  match c.time with
  | none => c
  | some t =>
    let total := t.second * 10 + t.tick + ticks
    let days := total / (10 * Config.daySeconds)
    let rest := total % (10 * Config.daySeconds)
    if Config.count16Top < t.day + days then ⟨none, false⟩
    else ⟨some ⟨t.day + days, rest / 10, rest % 10⟩, c.holiday && decide (days = 0)⟩

/-- The clock is set to a reading: the holiday flag is cleared when the day number changes or the clock was UNSET
(R52, R53). -/
def stepClock (r : Reading) (d : Device) : Device :=
  let sameDay : Bool := (d.vehicle.calendar.time.map ClockTime.day) == some r.day
  setClock (some ⟨r.day, r.second, 0⟩) (d.vehicle.calendar.holiday && sameDay) d

/-- A reply that carries the clock's state and reading after the request (R52). -/
def clockAnswer (r : Result) (d : Device) : Answer × Device := (⟨r, .none, .clock (reading d)⟩, d)

/-- CLOCK_SET (R52). -/
def askClockSet (body : List Byte) (d : Device) : Answer × Device :=
  let r := readTime body 0
  if !d.tariff.switch.isOpen && d.vehicle.calendar.time.isSome then clockAnswer .locked d
  else if body.length ≠ 5 then clockAnswer .malformed d
  else if Config.count16Top < r.day ∨ Config.daySeconds ≤ r.second then clockAnswer .outOfRange d
  else clockAnswer .ok (evaluate (stepClock r d))

/-- A reading in seconds across day numbers. -/
def absoluteSeconds (r : Reading) : Nat := r.day * Config.daySeconds + r.second

/-- The header's time differs from the clock by more than 1 s, or the clock is UNSET (R53, step 1). -/
def headerMovesClock (r : Reading) (d : Device) : Bool :=
  match reading d with
  | none => true
  | some c => decide (absoluteSeconds c + 1 < absoluteSeconds r ∨ absoluteSeconds r + 1 < absoluteSeconds c)

/-- The clock takes the header's holiday flag when the day numbers agree (R53, step 2). -/
def takeHolidayFlag (day : Nat) (holiday : Bool) (d : Device) : Device :=
  if (d.vehicle.calendar.time.map ClockTime.day) = some day then setClock d.vehicle.calendar.time holiday d else d

/-- The clock takes the time and the holiday flag of a header (R53). -/
def clockHeader (r : Reading) (holiday : Bool) (d : Device) : Device :=
  if Config.daySeconds ≤ r.second then d
  else
    let moved := headerMovesClock r d
    let d1 := if moved then stepClock r d else d
    let d2 := takeHolidayFlag r.day holiday d1
    if moved || d2.vehicle.calendar.holiday != d1.vehicle.calendar.holiday then evaluate d2 else d2

/-! ### The panic and occupancy inputs (R54, R55) -/

/-- The debounce takes a value. -/
def setPanic (p : PanicDebounce) (d : Device) : Device := { d with vehicle := { d.vehicle with panic := p } }

/-- One sample of the panic input (R54). -/
def samplePanic (active : Bool) (d : Device) : Device :=
  let p := d.vehicle.panic
  if active = p.latched then setPanic { p with count := 0 } d
  else if p.count + 1 < 5 then setPanic { p with count := p.count + 1 } d
  else if active then panicRaised (setPanic ⟨true, 0⟩ d)
  else setPanic ⟨false, 0⟩ d

/-- The taken level changes; its going inactive resets the occupancy count (R23, R55). -/
def takeLevel (level : Bool) (d : Device) : Device :=
  let d1 := { d with vehicle := { d.vehicle with occupancy := ⟨level, 0⟩ } }
  if level then d1 else resetUnmetered d1

/-- One sample of the occupancy input (R55). -/
def sampleOccupancy (level : Bool) (d : Device) : Device :=
  let o := d.vehicle.occupancy
  if level = o.taken then { d with vehicle := { d.vehicle with occupancy := { o with count := 0 } } }
  else if o.count + 1 < 10 then
    { d with vehicle := { d.vehicle with occupancy := { o with count := o.count + 1 } } }
  else takeLevel level d

/-! ### The position fix record (R56, R57) -/

/-- The age of a held fix increases by one tick (R57). -/
def ageFix (d : Device) : Device :=
  { d with vehicle := { d.vehicle with fix := d.vehicle.fix.map fun f => { f with age := satAdd Config.ageTop f.age 1 } } }

/-- The quality a byte of POSITION names: `some none` is NONE (12, Request bodies). -/
def qualityOf (n : Nat) : Option (Option Quality) :=
  match n with
  | 0 => some none
  | 1 => some (some .twoD)
  | 2 => some (some .threeD)
  | _ => none

/-- The fix a POSITION carries, when every field is in range (R56). -/
def fixOf (q : Quality) (body : List Byte) : Option Fix :=
  let latitude := signed32 (field body 2 4)
  let longitude := signed32 (field body 6 4)
  let time := readTime body 10
  let timed := presence body 0 0
  if -9000000 ≤ latitude ∧ latitude ≤ 9000000 ∧ -18000000 ≤ longitude ∧ longitude ≤ 18000000
      ∧ (timed = true → time.day ≤ Config.count16Top ∧ time.second < Config.daySeconds) then
    some { latitude, longitude, quality := q, time := if timed then some time else none, age := 0 }
  else none

/-- The fix record takes a value. -/
def setFix (f : Option Fix) (d : Device) : Device := { d with vehicle := { d.vehicle with fix := f } }

/-- POSITION with a known quality and the right length (R56). -/
def takePosition (q : Option Quality) (body : List Byte) (d : Device) : Answer × Device :=
  match q with
  | none => ok (setFix none d)
  | some quality =>
    match fixOf quality body with
    | some f => ok (setFix (some f) d)
    | none => refuse .outOfRange d

/-- POSITION (R56): an unknown quality is refused before any other check. -/
def askPosition (body : List Byte) (d : Device) : Answer × Device :=
  if body.length < 2 then refuse .malformed d
  else
    match qualityOf (byteAt body 1) with
    | none => refuse .outOfRange d
    | some q => withLength 15 body d (takePosition q body d)

end Sys2Proof.Machine
end

