-- ==== Sys2Proof/Machine/Channel.lean ====
section
/-! DEFINITION. The Channel Controller (05): headers as they arrive, the registration and its timers, the base's orders,
and which downlink blocks are taken. -/

namespace Sys2Proof.Machine

open Sys2Proof

/-! ### The header's parts (R75, R76, R203) -/

/-- Byte 0 of a header part (12, The EDCP header). -/
def headerKind : Nat := 1

/-- A block has 24 bytes and a good CRC over its first 22 (R75). -/
def blockGood (block : List Byte) : Bool :=
  decide (block.length = 24) && field block 22 2 == crc16 (block.take 22)

/-- A block that may stand where a header part is due (R75). -/
def partGood (block : List Byte) : Bool := blockGood block && byteAt block 0 == headerKind

/-- The header length a part 0 carries (12, The EDCP header). -/
def headerLength (part0 : List Byte) : Nat := byteAt part0 2

/-- Part `i` of a header is in its place and repeats the header length (R203). -/
def partConsistent (length i : Nat) (part : List Byte) : Bool := byteAt part 1 == i && byteAt part 2 == length

/-- The bytes of list stream that a header's parts carry (12, The EDCP header). -/
def listStream : List (List Byte) → List Byte
  | [] => []
  | part0 :: rest => (part0.drop 18).take 4 ++ rest.flatMap fun p => (p.drop 3).take 19

/-- The grants of a list stream. -/
def readGrants (stream : List Byte) (n : Nat) : List Grant :=
  (List.range n).map fun i => ⟨field stream (4 * i) 2, byteAt stream (4 * i + 2), byteAt stream (4 * i + 3)⟩

/-- The acknowledgements of a list stream, which begin at byte `start`. -/
def readAcks (stream : List Byte) (start n : Nat) : List Ack :=
  (List.range n).map fun i => ⟨field stream (start + 2 * i) 2 / 16, field stream (start + 2 * i) 2 % 16⟩

/-- The polls of a list stream, which begin at byte `start`. -/
def readPolls (stream : List Byte) (start n : Nat) : List Poll :=
  (List.range n).map fun i => ⟨field stream (start + 3 * i) 2, byteAt stream (start + 3 * i + 2)⟩

/-- The fields of a header from its parts (12, The EDCP header). -/
def readHeader (parts : List (List Byte)) : Header :=
  let p := parts.headD []
  let stream := listStream parts
  let grants := byteAt p 15
  let acks := byteAt p 16
  let polls := byteAt p 17
  { network := field p 3 2, level := byteAt p 5, cycle := byteAt p 6, day := field p 7 2, second := field p 9 3
    holiday := byteAt p 12 == 1, slots := byteAt p 13, contention := byteAt p 14
    grants := readGrants stream grants
    acks := readAcks stream (4 * grants) acks
    polls := readPolls stream (4 * grants + 2 * acks) polls }

/-- A short address in range (R76). -/
def addressOk (a : Nat) : Bool := decide (1 ≤ a ∧ a ≤ Config.addressTop)

/-- A reserved slot of the header (R77). -/
def reservedSlot (h : Header) (slot : Nat) : Bool := decide (1 ≤ slot ∧ slot < h.contention)

/-- The slots a grant names. -/
def Grant.slots (g : Grant) : List Nat := (List.range g.count).map fun i => g.first + i

/-- A grant that can be used, but for slots named before (R76). -/
def grantUsable (h : Header) (g : Grant) : Bool :=
  addressOk g.address && decide (1 ≤ g.count) && g.slots.all (reservedSlot h)

/-- The grants that stand: each usable, and naming no slot that an earlier standing grant names (R76, log 13). -/
def standingGrants (h : Header) : List Grant → List Nat → List Grant
  | [], _ => []
  | g :: gs, named =>
    if grantUsable h g && !g.slots.any (fun x => named.contains x) then
      g :: standingGrants h gs (g.slots ++ named)
    else standingGrants h gs named

/-- The polls that stand (R76, log 13). -/
def standingPolls (h : Header) : List Poll → List Nat → List Poll
  | [], _ => []
  | p :: ps, named =>
    if addressOk p.address && reservedSlot h p.slot && !named.contains p.slot then
      p :: standingPolls h ps (p.slot :: named)
    else standingPolls h ps named

/-- A header with the list entries that cannot be used left out (R76). -/
def usableHeader (h : Header) : Header :=
  let grants := standingGrants h h.grants []
  { h with grants
           acks := h.acks.filter fun a => addressOk a.address
           polls := standingPolls h h.polls (grants.flatMap Grant.slots) }

/-- The parts agree with the header length, and the lists fit in the list stream (R203). -/
def partsConsistent (parts : List (List Byte)) : Bool :=
  let p := parts.headD []
  let length := headerLength p
  ((List.range parts.length).all fun i => partConsistent length i (parts[i]?.getD []))
    && decide (4 * byteAt p 15 + 2 * byteAt p 16 + 3 * byteAt p 17 ≤ 4 + 19 * (length - 1))

/-- The header passes the checks of R76. -/
def headerConsistent (parts : List (List Byte)) : Bool :=
  let p := parts.headD []
  let h := readHeader parts
  decide (1 ≤ h.level) && decide (1 ≤ h.slots ∧ h.slots ≤ 32) && decide (1 ≤ h.contention ∧ h.contention ≤ h.slots)
    && decide (byteAt p 15 ≤ 8) && decide (byteAt p 16 ≤ 16) && decide (byteAt p 17 ≤ 4)

/-- What a block does to a header being collected: one part more, a complete header, or damage (R75, R76, R203). -/
inductive Collected where
  | more (parts : List (List Byte))
  | complete (h : Header)
  | damage
deriving DecidableEq, Repr

/-- A block arrives where a header part is due (R75, R76, R203). -/
def collect (parts : List (List Byte)) (block : List Byte) : Collected :=
  if !partGood block then .damage
  else
    let now := parts ++ [block]
    let length := headerLength (now.headD [])
    if length < 1 ∨ 4 < length then .damage
    else if now.length < length then .more now
    else if partsConsistent now && headerConsistent now then .complete (usableHeader (readHeader now))
    else .damage

/-! ### Registration: changes of state -/

/-- The Channel Controller takes a value. -/
def onChannel (f : Channel → Channel) (d : Device) : Device := { d with channel := f d.channel }

/-- A change of registration state or of short address is told to the host (R95). -/
def regNotice (cause : RegCause) (before d : Device) : Device :=
  notifyIf (d.channel.reg != before.channel.reg || d.channel.address != before.channel.address)
    (.registration d.channel.reg d.channel.address d.channel.network cause) d

/-- The Offer Table, the Uplink Queue and the Trip Store take a forfeit of the address (R87). -/
def forfeit (d : Device) : Device :=
  storeForfeit (revertInFlight (forfeitTable (onChannel (fun c => { c with address := none }) d)))

/-- A forfeit made only when an address is held (R83, R91). -/
def forfeitHeld (d : Device) : Device := if d.channel.address.isSome then forfeit d else d

/-- The state becomes SEARCHING: no network, no logon record, the LOST period and the hold timer stopped (R87, R90). -/
def enterSearching (d : Device) : Device :=
  onChannel (fun c => { c with reg := .searching, network := none, logon := none, lostPeriod := none, holdTimer := 0 }) d

/-- The state becomes INCOMPATIBLE (R91); an address held is forfeit, and a cab that was REGISTERED leaves it. -/
def enterIncompatible (d : Device) : Device :=
  onChannel
    (fun c => { c with reg := .incompatible, network := none, logon := none, lostPeriod := none, holdTimer := 0 })
    (forfeitHeld d)

/-- The state becomes LOGON_HOLD (R83). -/
def enterHold (d : Device) : Device :=
  onChannel (fun c => { c with reg := .logonHold, logon := none, lostPeriod := none, holdTimer := Config.logonHold })
    (forfeitHeld d)

/-- A logon record is made with attempt 1, handed for this cycle, and the state becomes LOGON_WAIT (R80, R86). -/
def enterLogonWait (kind : LogonKind) (d : Device) : Device :=
  onChannel
    (fun c => { c with reg := .logonWait, logon := some ⟨kind, 1, .handed⟩, loggedOnAs := some (identityInForce d)
                       lossTimer := 0 }) d

/-- The state becomes LOST (R85). -/
def enterLost (d : Device) : Device :=
  let wasRegistered : Bool := d.channel.reg == .registered
  let d1 := onChannel
    (fun c => { c with reg := .lost, logon := none
                       lostPeriod := match c.lostPeriod with
                         | some n => some n
                         | none => some 0 }) d
  if wasRegistered then revertInFlight d1 else d1

/-! ### Headers judged (R80 to R82, R86, R91) -/

/-- A level the part supports (R76). -/
def levelOk (h : Header) : Bool := decide (1 ≤ h.level ∧ h.level ≤ 3)

/-- A network in the acceptance list. -/
def networkAccepted (network : Nat) (d : Device) : Bool := d.items.acceptance.contains network

/-- A header of the registered network. -/
def isOwn (h : Header) (d : Device) : Bool := d.channel.network == some h.network

/-- A header judged in SEARCHING or INCOMPATIBLE (R80, R91). -/
def judgeSearching (h : Header) (d : Device) : Device :=
  if !(networkAccepted h.network d && levelOk h) then enterIncompatible d
  else if d.tariff.inForce.isNone then enterSearching d
  else enterLogonWait .logon (onChannel (fun c => { c with network := some h.network }) d)

/-- A header judged in LOST (R86). -/
def judgeLost (h : Header) (d : Device) : Device :=
  if isOwn h d then
    if !levelOk h then enterIncompatible d
    else enterLogonWait (if d.channel.address.isSome then .resume else .logon) d
  else d

/-- Change the logon record's attempt count and wait state. -/
def onLogon (f : Logon → Logon) (d : Device) : Device := onChannel (fun c => { c with logon := c.logon.map f }) d

/-- A logon backoff that has been found at 0 ends: the next attempt is handed (R82). -/
def settleLogon (d : Device) : Device :=
  onLogon (fun l => if l.wait = .backoffDue then { l with attempt := l.attempt + 1, wait := .handed } else l) d

/-- A backoff count tested at an OWN header: at 0 it ends, above 0 it decreases by one (R82, log 9). -/
def testedBackoff (n : Nat) : LogonWait := if n = 0 then .backoffDue else .backoff (n - 1)

/-- An attempt has failed (R82, R83). -/
def attemptFailed (l : Logon) (d : Device) : Device :=
  if l.attempt < Config.logonAttempts then
    let (n, d1) := draw (2 ^ min l.attempt 5) d
    onLogon (fun x => { x with wait := testedBackoff n }) d1
  else enterHold d

/-- Cycles from one cycle number to another, counted forward modulo 256. -/
def cyclesOn (sent now : Nat) : Nat := (now + 256 - sent % 256) % 256

/-- An OWN header of a supported level in LOGON_WAIT (R81, R82). -/
def judgeAttempt (h : Header) (d : Device) : Device :=
  match d.channel.logon with
  | none => d
  | some l =>
    match l.wait with
    | .handed => d
    | .backoffDue => settleLogon d
    | .sent c => if 4 ≤ cyclesOn c h.cycle then attemptFailed l d else d
    | .backoff n => onLogon (fun x => { x with wait := testedBackoff n }) d

/-- An OWN header restarts the header loss timer (R78, R85). -/
def restartLoss (d : Device) : Device := onChannel (fun c => { c with lossTimer := 0 }) d

/-- A header judged in REGISTERED, LOGON_WAIT and BARRED, when it is OWN (R78, R85, R91). -/
def judgeOwn (h : Header) (d : Device) : Device :=
  if !isOwn h d then d
  else
    match d.channel.reg with
    | .barred => restartLoss d
    | .registered => if levelOk h then restartLoss d else enterIncompatible d
    | .logonWait => if levelOk h then judgeAttempt h (restartLoss d) else enterIncompatible d
    | _ => d

/-- The cause of the REGISTRATION notice a header's judgement sends: HOLD at the failure of the last attempt (R95). -/
def headerCause (d : Device) : RegCause := if d.channel.reg = .logonHold then .hold else .header

/-- A header is judged for the registration (R78, R80, R86, R91). -/
def judgeHeader (h : Header) (d : Device) : Device :=
  let d1 := match d.channel.reg with
    | .searching => judgeSearching h d
    | .incompatible => judgeSearching h d
    | .lost => judgeLost h d
    | .logonHold => d
    | .registered => judgeOwn h d
    | .logonWait => judgeOwn h d
    | .barred => judgeOwn h d
  regNotice (headerCause d1) d d1

/-- The short address given with the view (R78). -/
def viewAddress (own : Bool) (d : Device) : Option Nat :=
  if own && (d.channel.reg == .registered || d.channel.reg == .barred) then d.channel.address else none

/-- The header becomes the cycle view (R75, R78, log 14). -/
def setView (h : Header) (d : Device) : Device :=
  let own := isOwn h d
  onChannel (fun c => { c with view := some ⟨h, own, viewAddress own d⟩ }) d

/-- The header is counted for the Mailbox (R78). -/
def countsForMail (h : Header) (d : Device) : Bool :=
  isOwn h d || (d.channel.reg == .searching && networkAccepted h.network d)

/-! ### Orders of the base and of the host (R84, R88 to R92, R96) -/

/-- An ASSIGN registers a cab in LOGON_WAIT (R84). -/
def assignLogon (address : Nat) (d : Device) : Device :=
  onChannel (fun c => { c with reg := .registered, address := some address, logon := none, lostPeriod := none
                               lossTimer := 0 }) d

/-- An ASSIGN with an address in range (R84). -/
def assignAddress (address : Nat) (d : Device) : Device :=
  match d.channel.reg with
  | .logonWait => assignLogon address d
  | .registered =>
    if d.channel.address = some address then d
    else revertInFlight (onChannel (fun c => { c with address := some address }) d)
  | .barred => onChannel (fun c => { c with address := some address }) d
  | _ => d

/-- An ASSIGN that is taken (R84). -/
def takeAssign (address : Nat) (d : Device) : Device :=
  if addressOk address then regNotice .assign d (assignAddress address d) else d

/-- The cab is barred (R88). -/
def enterBarred (d : Device) : Device :=
  let d1 := barTable
    (onChannel (fun c => { c with reg := .barred, logon := none, lostPeriod := none, holdTimer := 0, lossTimer := 0 }) d)
  if d.channel.reg = .registered then revertInFlight d1 else d1

/-- A BAR that is taken (R88). The table's notices come before the REGISTRATION notice (log 43). -/
def takeBar (d : Device) : Device :=
  match d.channel.reg with
  | .barred => d
  | .incompatible => d
  | _ => regNotice .bar d (enterBarred d)

/-- An UNBAR that is taken (R89). -/
def takeUnbar (d : Device) : Device :=
  if d.channel.reg = .barred then
    regNotice .unbar d
      (if d.channel.address.isSome then onChannel (fun c => { c with reg := .registered, lossTimer := 0 }) d
       else enterSearching d)
  else d

/-- The registration is dropped: any address forfeit, SEARCHING, the timers cleared (R90, R92, R97). -/
def dropRegistration (d : Device) : Device := restartLoss (enterSearching (forfeit d))

/-- A NETWORK_RESET that is taken (R90). -/
def takeNetworkReset (d : Device) : Device :=
  match d.channel.reg with
  | .barred => d
  | .incompatible => d
  | _ => regNotice .networkReset d (dropRegistration d)

/-- RESCAN (R92). The length of its body is judged after the state (R191). -/
def askRescan (body : List Byte) (d : Device) : Answer × Device :=
  if d.channel.reg = .barred then refuse .wrongState d
  else
    withLength 0 body d
      (okWith (.regBefore d.channel.reg) (regNotice .rescan d (dropRegistration d)))

/-- The Channel Controller's share of a host RESET: the bar alone is kept (R97). -/
def resetChannel (d : Device) : Device :=
  if d.channel.reg = .barred then restartLoss d else regNotice .hostReset d (dropRegistration d)

/-- The identity of the set in force differs from the one the cab logged on or resumed with (R96). A set committed while
BARRED is not logged on with, so a later commit of the same identity is a change, though R96 also says that the identity
in use changes nothing (log 42). -/
def identityChanged (d : Device) : Bool :=
  match d.channel.loggedOnAs with
  | none => false
  | some i => i != identityInForce d

/-- A TARIFF_COMMIT has given an identity (R96). -/
def takeIdentity (d : Device) : Device :=
  if identityChanged d
    && (d.channel.reg == .logonWait || d.channel.reg == .registered || d.channel.reg == .lost) then
    regNotice .identity d (enterSearching (forfeit d))
  else d

/-! ### Timers (R83, R85, R87) -/

/-- The LOST period has run out (R87). -/
def lostPeriodEnds (d : Device) : Device := regNotice .period d (enterSearching (forfeit d))

/-- The LOST period takes a tick: at its end it has an effect in LOST and LOGON_WAIT, the states it runs in (R87). -/
def lostTick (d : Device) : Device :=
  match d.channel.lostPeriod with
  | none => d
  | some n =>
    if Config.lostPeriod ≤ n + 1 then lostPeriodEnds d
    else onChannel (fun c => { c with lostPeriod := some (n + 1) }) d

/-- The header loss timer has run out (R85). -/
def lossEnds (d : Device) : Device := regNotice .loss d (enterLost (onChannel (fun c => { c with lossTimer := Config.headerLoss }) d))

/-- The header loss timer takes a tick; in BARRED its expiry has no effect (R85). -/
def lossTick (d : Device) : Device :=
  let n := min Config.headerLoss (d.channel.lossTimer + 1)
  match d.channel.reg with
  | .barred => onChannel (fun c => { c with lossTimer := n }) d
  | .registered => if Config.headerLoss ≤ n then lossEnds d else onChannel (fun c => { c with lossTimer := n }) d
  | .logonWait => if Config.headerLoss ≤ n then lossEnds d else onChannel (fun c => { c with lossTimer := n }) d
  | _ => d

/-- LOGON_HOLD ends (R83). -/
def logonHoldEnds (d : Device) : Device := regNotice .hold d (enterSearching d)

/-- The LOGON_HOLD timer takes a tick (R83). -/
def logonHoldTick (d : Device) : Device :=
  if d.channel.reg = .logonHold then
    if d.channel.holdTimer ≤ 1 then logonHoldEnds d
    else onChannel (fun c => { c with holdTimer := c.holdTimer - 1 }) d
  else d

/-- The Channel Controller's tick: the LOST period, then the header loss timer, then the hold (R83, R85, R87). -/
def channelTick (d : Device) : Device := logonHoldTick (lossTick (lostTick d))

/-- The tick that ends one of the Channel Controller's timers. -/
def lostPeriodDue (d : Device) : Bool :=
  match d.channel.lostPeriod with
  | some n => decide (Config.lostPeriod ≤ n + 1)
  | none => false

/-- The coming tick ends the header loss timer, in a state in which its expiry has an effect (R85). The LOST period is
counted first at a tick, and its end would leave the timer without effect. -/
def lossDue (d : Device) : Bool :=
  (d.channel.reg == .registered || d.channel.reg == .logonWait) && decide (Config.headerLoss ≤ d.channel.lossTimer + 1)
    && !lostPeriodDue d

/-- The coming tick ends LOGON_HOLD (R83). -/
def logonHoldDue (d : Device) : Bool := d.channel.reg == .logonHold && decide (d.channel.holdTimer ≤ 1)

/-! ### Downlink blocks (R75, R93) -/

/-- A block other than a header part arrives: a header still being collected is damaged by it (R75). -/
def endCollecting (d : Device) : Device :=
  match d.channel.headerRx with
  | .collecting _ => onChannel (fun c => { c with headerRx := .damaged }) d
  | _ => d

/-- The cycle is one in which blocks are taken (R93). In SEARCHING the last intact header must have been of an accepted
network, as the list stood when it was judged: a change of the list waits for the next header (R91). -/
def cycleTakes (d : Device) : Bool :=
  let known : Bool :=
    match d.channel.reg with
    | .incompatible => false
    | .searching => d.channel.lastIntact.isSome && d.channel.lastAccepted
    | _ => d.channel.lastIntact.isSome && d.channel.lastIntact == d.channel.network
  known && (d.channel.headerRx == .intact || d.channel.headerRx == .damaged)

/-- The cab identity a block carries is this cab's (R93). -/
def identityIs (identity : Nat) (d : Device) : Bool :=
  d.tariff.inForce.isSome && (identityInForce d).cab == identity

/-- The short address of a block is the cab's (R93). -/
def addressIs (address : Nat) (d : Device) : Bool :=
  (d.channel.reg == .registered || d.channel.reg == .barred) && d.channel.address == some address

/-- The address of a block that carries `identity`, if any, is this cab's; `zoned` says that the kind may be addressed
to a zone (R93). -/
def addressTakes (dest : DownAddr) (identity : Option Nat) (zoned : Bool) (d : Device) : Bool :=
  match dest with
  | .all =>
    match identity with
    | some i => identityIs i d
    | none => true
  | .short a => addressIs a d
  | .zone z => zoned && bookingIn z d

/-- A downlink block arrives: it damages a header that is due, and its owner takes it when R93 lets the cab take it.
From a supply warning on no block is taken (R97). -/
def downlink (dest : DownAddr) (identity : Option Nat) (zoned : Bool) (owner : Device → Device) (d : Device) : Device :=
  if held d then d
  else
    let d1 := endCollecting d
    if cycleTakes d1 && addressTakes dest identity zoned d1 then finish (owner d1) else d1

end Sys2Proof.Machine
end

