-- ==== Sys2Proof/Machine/Radio.lean ====
section
/-! DEFINITION. The Uplink Queue on the radio (06): what a header does to the message in flight and to the backoffs, the
cycle plan, and the blocks sent in each slot. -/

namespace Sys2Proof.Machine

open Sys2Proof

/-! ### The end of a message (R112 to R116) -/

/-- The in-flight message becomes none. -/
def clearFlight (d : Device) : Device := { d with uplink := { d.uplink with inFlight := none } }

/-- The owner of a delivered message is told (R116). -/
def ownerDelivered (e : Entry) (d : Device) : Device :=
  match e.msg with
  | .bid job => bidDelivered job d
  | .decline _ _ => d
  | .noshow _ => d
  | .tripRecord n => recordDelivered n d
  | .shiftRecord n => recordDelivered n d
  | .status => statusTold e.carried d
  | .text _ _ => d
  | .cannedReply mail _ => replyEnds mail true d
  | .readReceipt mail => receiptEnds mail true d

/-- The owner of a failed message is told (R116). -/
def ownerFailed (e : Entry) (d : Device) : Device :=
  match e.msg with
  | .bid job => bidFailed job d
  | .decline _ _ => d
  | .noshow _ => d
  | .tripRecord n => setMark n .held d
  | .shiftRecord n => setMark n .held d
  | .status => compareBooking d
  | .text _ _ => d
  | .cannedReply mail _ => replyEnds mail false d
  | .readReceipt mail => receiptEnds mail false d

/-- Unmetered owed is cleared when a STATUS that carried the mark has reached the base (R100). -/
def settleUnmetered (carried : Bool) (d : Device) : Device :=
  if carried then { d with uplink := { d.uplink with unmeteredOwed := false } } else d

/-- A message is delivered (R112). -/
def delivered (e : Entry) (d : Device) : Device :=
  let d1 := dropEntry e.serial (settleUnmetered (e.msg == .status && e.unmetered) (clearFlight d))
  notify (.delivered e.msg e.seq) (ownerDelivered e d1)

/-- A message has failed: an accounting entry is held, any other is removed (R114, R115). -/
def messageFailed (e : Entry) (d : Device) : Device :=
  if e.msg.record.isSome then
    let d1 := onEntry e.serial (fun x => { x with state := .held Config.accountingHold }) d
    notify (.failed e.msg e.seq true) (ownerFailed e d1)
  else notify (.failed e.msg e.seq false) (ownerFailed e (dropEntry e.serial d))

/-- An attempt of the in-flight message fails (R113). -/
def attemptEnds (e : Entry) (d : Device) : Device :=
  let attempts := e.attempts + 1
  let d1 := onEntry e.serial (fun x => { x with attempts }) (clearFlight d)
  if attempts < Config.messageAttempts then
    let (n, d2) := draw (2 ^ min attempts 5) d1
    onEntry e.serial (fun x => { x with state := .backoff n }) d2
  else messageFailed { e with attempts } d1

/-! ### A header reaches the queue (R105, R110, R112) -/

/-- The acknowledgement list names this cab and this sequence (R112). -/
def acknowledged (h : Header) (address : Option Nat) (seq : Option Nat) : Bool :=
  h.acks.any fun a => some a.address == address && some a.seq == seq

/-- The first grant to this cab whose count is at least `blocks` (R110). -/
def adequateGrant (h : Header) (address : Option Nat) (blocks : Nat) : Option Grant :=
  h.grants.find? fun g => some g.address == address && decide (blocks ≤ g.count)

/-- The in-flight message takes a phase. -/
def setPhase (serial : Nat) (p : FlightPhase) (d : Device) : Device :=
  { d with uplink := { d.uplink with inFlight := some ⟨serial, p⟩ } }

/-- A header judged for a message in GRANT_WAIT (R110). -/
def judgeGrantWait (h : Header) (e : Entry) (cycle : Nat) (d : Device) : Device :=
  let n := cyclesOn cycle h.cycle
  match adequateGrant h d.channel.address e.msg.blocks with
  | some g => if 1 ≤ n ∧ n ≤ 5 then setPhase e.serial (.granted g.first 0) d else attemptEnds e d
  | none => if 1 ≤ n ∧ n ≤ 4 then d else attemptEnds e d

/-- A header judged for a message in ACK_WAIT (R112). -/
def judgeAckWait (h : Header) (e : Entry) (cycle : Nat) (d : Device) : Device :=
  if cyclesOn cycle h.cycle = 1 && acknowledged h d.channel.address e.seq then delivered e d else attemptEnds e d

/-- A header judged for the in-flight message (R110, R112). -/
def judgeFlight (h : Header) (d : Device) : Device :=
  match d.uplink.inFlight with
  | none => d
  | some f =>
    match entryAt f.serial d with
    | none => d
    | some e =>
      match f.phase with
      | .grantWait c => judgeGrantWait h e c d
      | .granted _ _ => d
      | .ackWait c => judgeAckWait h e c d

/-- A backoff found at 0 by an earlier header has ended (R105). -/
def settleEntry (e : Entry) : Entry := if e.state = .backoffDue then { e with state := .waiting } else e

/-- The backoff of the entry with this order number, if an earlier header found it at 0, has ended (R105). -/
def settleOrder (order : Nat) (d : Device) : Device :=
  { d with uplink :=
      { d.uplink with entries := d.uplink.entries.map fun e => if e.order = order then settleEntry e else e } }

/-- Every backoff found at 0 by an earlier header has ended (R105). -/
def settleEntries (d : Device) : Device :=
  { d with uplink := { d.uplink with entries := d.uplink.entries.map settleEntry } }

/-- A header counts the backoff of an entry: at 0 it ends, above 0 it decreases by one (R105, log 9). -/
def countBackoff (e : Entry) : Entry :=
  match e.state with
  | .backoff n => { e with state := if n = 0 then .backoffDue else .backoff (n - 1) }
  | _ => e

/-- An OWN header taken in REGISTERED reaches the queue: the in-flight message is judged, then the backoffs are
counted, those drawn at this header among them (R105, R110, R112, R113). -/
def uplinkHeader (h : Header) (d : Device) : Device :=
  let d1 := judgeFlight h (settleEntries d)
  { d1 with uplink := { d1.uplink with entries := d1.uplink.entries.map countBackoff } }

/-! ### A block where a header part may stand (R75, R78) -/

/-- An intact header reaches the neighbours (R78): the Channel Controller judges it, and it becomes the view; then the
Uplink Queue, the clock and the Mailbox take it. -/
def headerTaken (h : Header) (d : Device) : Device :=
  let d1 := onChannel
    (fun c => { c with headerRx := .intact, lastIntact := some h.network, lastAccepted := networkAccepted h.network d }) d
  let d2 := setView h (judgeHeader h d1)
  let registered : Bool := isOwn h d2 && d2.channel.reg == .registered
  let d3 := if registered then clockHeader ⟨h.day, h.second⟩ h.holiday (uplinkHeader h d2) else d2
  if countsForMail h d3 then mailHeader d3 else d3

/-- A downlink block arrives where a header part may stand (R75). Where no part is due, a header part is discarded. -/
def headerBlock (block : List Byte) (d : Device) : Device :=
  match d.channel.headerRx with
  | .collecting parts =>
    match collect parts block with
    | .more now => onChannel (fun c => { c with headerRx := .collecting now }) d
    | .complete h => headerTaken h d
    | .damage => onChannel (fun c => { c with headerRx := .damaged }) d
  | _ => d

/-- A cycle start: the view and the plan of the cycle before are discarded (R75). A message still GRANTED, whose slots
have not come, returns to WAITING (log 15). -/
def startCycle (d : Device) : Device :=
  let granted : Bool :=
    match d.uplink.inFlight.map InFlight.phase with
    | some (.granted _ _) => true
    | _ => false
  let d1 := if granted then groundInFlight d else d
  { onChannel (fun c => { c with view := none, headerRx := .collecting [] }) d1 with
    uplink := { d1.uplink with plan := none }
    radio := [] }

/-! ### Choosing (R105 to R107) -/

/-- The view is OWN: the mark it was given at its header, which a clearing of the registered network within the cycle leaves
as it is (log 61). -/
def viewOwn (d : Device) : Bool := (d.channel.view.map CycleView.own).getD false

/-- Queue messages are permitted: REGISTERED, in a cycle whose view is OWN, and no supply warning (R79, R122). -/
def queuePermitted (d : Device) : Bool := !held d && d.channel.reg == .registered && viewOwn d

/-- An entry is eligible to be chosen (R105). -/
def eligible (d : Device) (e : Entry) : Bool :=
  e.state == .waiting && d.uplink.inFlight.isNone && queuePermitted d
    && (match e.msg with
        | .bid _ => d.emergency.state == .quiet
        | _ => true)

/-- The class after this one: 1 follows 4 (R106). -/
def nextClass (c : Nat) : Nat := if 4 ≤ c then 1 else c + 1

/-- The ranking of the classes (R106). -/
def ranking (d : Device) : List Nat :=
  let c := d.uplink.pointer
  match d.items.arbitration with
  | .fixed => [1, 2, 3, 4]
  | .rotating => [c, nextClass c, nextClass (nextClass c), nextClass (nextClass (nextClass c))]

/-- The entry chosen: of the first class that holds an eligible entry, the oldest (R106). -/
def chooseEntry (d : Device) : Option Entry :=
  (ranking d).findSome? fun c => d.uplink.entries.find? fun e => e.msg.cls == c && eligible d e

/-- The pointer after a class has won (R106). -/
def movePointer (c : Nat) (d : Device) : Device :=
  match d.items.arbitration with
  | .fixed => d
  | .rotating => { d with uplink := { d.uplink with pointer := nextClass c } }

/-- A logon attempt is handed for this cycle: LOGON_WAIT, in a cycle whose view is OWN (R79, R81). -/
def logonHanded (d : Device) : Bool :=
  !held d && d.channel.reg == .logonWait && viewOwn d && d.channel.logon.map Logon.wait == some .handed

/-- The lane holds a TRACK that may be sent (R119, R122). -/
def trackPending (d : Device) : Bool :=
  !held d && (match d.uplink.lane with
              | .track _ => true
              | _ => false)

/-- What the plan puts in the contention block (R107). -/
def contentionUse (d : Device) : Option ContentionUse × Device :=
  if trackPending d then (some .track, d)
  else if logonHanded d then (some .logon, d)
  else
    match chooseEntry d with
    | some e => (some (.entry e.serial), movePointer e.msg.cls d)
    | none => (none, d)

/-- The contention slot is drawn among those of the view (R108). -/
def drawContention (h : Header) (d : Device) : Option (Nat × ContentionUse) × Device :=
  if h.slots ≤ h.contention then (none, d)
  else
    match contentionUse d with
    | (none, d1) => (none, d1)
    | (some use, d1) =>
      let (n, d2) := draw (h.slots - h.contention) d1
      (some (h.contention + n, use), d2)

/-- The slots polled to the cab that it must answer (R107, R117). The state is judged when the plan is made and again in
the slot, not at the header: "taken in REGISTERED" could mean either (log 45). -/
def pollsToAnswer (v : CycleView) (d : Device) : List Nat :=
  if queuePermitted d then (v.header.polls.filter fun p => some p.address == v.address).map Poll.slot else []

/-- The cycle plan, made at the start of the uplink phase (R107). -/
def makePlan (d : Device) : Device :=
  match d.channel.view with
  | none => { d with uplink := { d.uplink with plan := none } }
  | some v =>
    let d1 := settleLogon (settleEntries d)
    let (contention, d2) := drawContention v.header d1
    { d2 with uplink := { d2.uplink with plan := some ⟨true, pollsToAnswer v d1, contention⟩ } }

/-! ### Blocks (R98, R100, R104, R118) -/

/-- The address given with the view (R78). -/
def cycleAddress (d : Device) : Option Nat := d.channel.view.bind CycleView.address

/-- The cycle number of the view. -/
def cycleNumber (d : Device) : Nat := (d.channel.view.map fun v => v.header.cycle).getD 0

/-- A block under the address given with the view, or under address 0 with the cab identity (R78, R118). -/
def blockOf (seq : Option Nat) (index count : Nat) (content : Content) (d : Device) : UplinkBlock :=
  { address := (cycleAddress d).getD 0
    identity := if (cycleAddress d).isSome then none else some (identityInForce d).cab
    seq, index, count, content }

/-- A block goes in a slot (log 10). -/
def send (slot : Nat) (b : UplinkBlock) (d : Device) : Device := { d with radio := d.radio ++ [⟨slot, b⟩] }

/-- The slot has carried no block in this cycle. -/
def slotFree (slot : Nat) (d : Device) : Bool := !d.radio.any fun s => s.slot == slot

/-- The EMERGENCY block of this moment (R166). -/
def emergencyReport (d : Device) : EmergencyReport :=
  { identity := (identityInForce d).cab, raiseNumber := d.emergency.number, position := sentPosition d
    meter := d.meter.state, fareExtras := tripMoney d, job := (activeOffer d).map Offer.job }

/-- The STATUS block of this moment (R100). -/
def statusBlock (d : Device) : StatusBlock :=
  { meter := d.meter.state, fareExtras := tripMoney d, booking := d.offers.booking, unmetered := d.uplink.unmeteredOwed }

/-- The content of block `index` of a message (R98, R100, R101; 12, The uplink block). -/
def messageContent (m : Msg) (index : Nat) (d : Device) : Content :=
  match m with
  | .bid j => .bid j
  | .decline j r => .decline j r
  | .noshow j => .noshow j
  | .tripRecord n => .tripRecord (recordPart n index d)
  | .shiftRecord n => .shiftRecord (recordPart n index d)
  | .status => .status (statusBlock d)
  | .text n chars => .text n ((chars.drop (16 * index)).take 16)
  | .cannedReply n c => .cannedReply n c
  | .readReceipt n => .readReceipt n

/-- Another entry of the queue carries this sequence (R104). -/
def seqCarried (s : Nat) (d : Device) : Bool := d.uplink.entries.any fun e => e.seq == some s

/-- The sequence given to an entry: the next value that no entry carries (R104). -/
def freeSeq (d : Device) : Nat :=
  (((List.range 16).map fun i => (d.uplink.nextSeq + i) % 16).find? fun s => !seqCarried s d).getD d.uplink.nextSeq

/-- An entry takes its sequence at its first transmission (R104). -/
def giveSeq (e : Entry) (d : Device) : Entry × Device :=
  match e.seq with
  | some _ => (e, d)
  | none =>
    let s := freeSeq d
    let d1 := onEntry e.serial (fun x => { x with seq := some s }) d
    ({ e with seq := some s }, { d1 with uplink := { d1.uplink with nextSeq := (s + 1) % 16 } })

/-! ### The emergency lane's slots (R118, R120) -/

/-- The EMERGENCY block goes in a slot, and is reported (R118, R167). -/
def sendEmergency (slot : Nat) (d : Device) : Device :=
  laneReport .emergency (send slot (blockOf none 0 1 (.emergency (emergencyReport d)) d) d)

/-- The CANCEL block goes in a slot, and is reported (R118, R167, R173). -/
def sendCancel (slot : Nat) (d : Device) : Device :=
  laneReport .cancel
    (send slot (blockOf none 0 1 (.cancel (identityInForce d).cab d.emergency.number) d) d)

/-- Slot 0 is still to come in this cycle, and the cycle has a view (R75, R118). -/
def slotZeroDue (d : Device) : Bool :=
  d.channel.view.isSome && (d.uplink.plan.map Plan.slotZero).getD false

/-- Slot 0 has come. -/
def takeSlotZero (d : Device) : Device :=
  { d with uplink := { d.uplink with plan := d.uplink.plan.map fun p => { p with slotZero := false } } }

/-- The time of slot 0: the lane is read (R118). -/
def slotZero (d : Device) : Device :=
  if slotZeroDue d then
    let d1 := takeSlotZero d
    match d1.uplink.lane with
    | .emergency => sendEmergency 0 d1
    | .cancel => sendCancel 0 d1
    | .empty => d1
    | .track _ => d1
  else d

/-- The reserved slots that the view gives to the cab's short address (R120). -/
def reservedToCab (v : CycleView) : List Nat :=
  ((v.header.grants.filter fun g => some g.address == v.address).flatMap Grant.slots)
    ++ (v.header.polls.filter fun p => some p.address == v.address).map Poll.slot

/-- The slot is the first reserved slot granted or polled to the cab (R120). -/
def firstReserved (slot : Nat) (d : Device) : Bool :=
  match d.channel.view with
  | none => false
  | some v => (reservedToCab v).contains slot && (reservedToCab v).all fun s => decide (slot ≤ s)

/-- The steal: the slot is the cab's first reserved one and the lane holds EMERGENCY, in REGISTERED or BARRED in an OWN
cycle (R120), the mark and the address being those of the view (log 61). -/
def steals (slot : Nat) (d : Device) : Bool :=
  firstReserved slot d && viewOwn d && (d.channel.reg == .registered || d.channel.reg == .barred)
    && d.uplink.lane == .emergency

/-- The slot is the first of the in-flight message's granted slots, and none of its blocks has gone. -/
def firstOfGrant (slot : Nat) (d : Device) : Bool :=
  match d.uplink.inFlight.map InFlight.phase with
  | some (.granted first sent) => first == slot && sent == 0
  | _ => false

/-- A poll is no longer to be answered in this slot. -/
def takePoll (slot : Nat) (d : Device) : Device :=
  let change (p : Plan) : Plan := { p with polls := p.polls.filter fun s => s != slot }
  { d with uplink := { d.uplink with plan := d.uplink.plan.map change } }

/-- The slot carries an EMERGENCY in place of its planned use (R117, R120). -/
def stealSlot (slot : Nat) (d : Device) : Device :=
  let d1 := if firstOfGrant slot d then groundInFlight d else d
  sendEmergency slot (takePoll slot d1)

/-! ### Granted and polled slots (R111, R117) -/

/-- A granted slot carries the next block of the message; after the last the message waits for its acknowledgement
(R111). -/
def sendGranted (slot first sent : Nat) (e : Entry) (d : Device) : Device :=
  let d1 := send slot (blockOf e.seq sent e.msg.blocks (messageContent e.msg sent d) d) d
  let d2 := if sent = 0 then markRecordOf e.msg .inFlight d1 else d1
  if sent + 1 < e.msg.blocks then setPhase e.serial (.granted first (sent + 1)) d2
  else setPhase e.serial (.ackWait (cycleNumber d2)) d2

/-- The next block of the in-flight message is due in this slot (R108, R111). -/
def grantedEntry (slot : Nat) (d : Device) : Option (Nat × Nat × Entry) :=
  match d.uplink.inFlight with
  | none => none
  | some f =>
    match f.phase with
    | .granted first sent => if slot = first + sent ∧ queuePermitted d then (entryAt f.serial d).map fun e => (first, sent, e) else none
    | _ => none

/-- The uplink phase has begun in a cycle with a view, and the slot is free (R75, R107). -/
def slotOpen (slot : Nat) (d : Device) : Bool :=
  d.channel.view.isSome && d.uplink.plan.isSome && slotFree slot d

/-- The time of a granted slot (R111, R120). -/
def slotGranted (slot : Nat) (d : Device) : Device :=
  if !slotOpen slot d then d
  else if steals slot d then stealSlot slot d
  else
    match grantedEntry slot d with
    | some (first, sent, e) => sendGranted slot first sent e d
    | none => d

/-- A held STATUS entry that is not in flight is satisfied by a poll answer (R117). -/
def satisfyStatus (d : Device) : Device :=
  match d.uplink.entries.find? fun e => e.msg == .status with
  | some e => if e.state = .inFlight then d else dropEntry e.serial d
  | none => d

/-- A poll answer (R117). -/
def answerPoll (slot : Nat) (d : Device) : Device :=
  let b := statusBlock d
  let d1 := takePoll slot (send slot (blockOf none 0 1 (.status b) d) d)
  let d2 := settleUnmetered b.unmetered { d1 with uplink := { d1.uplink with statusOwed := false } }
  statusTold b.booking (satisfyStatus d2)

/-- A poll is planned in this slot and may be answered (R108, R117). -/
def pollDue (slot : Nat) (d : Device) : Bool :=
  queuePermitted d && ((d.uplink.plan.map Plan.polls).getD []).contains slot

/-- The time of a polled slot (R117, R120). -/
def slotPolled (slot : Nat) (d : Device) : Device :=
  if !slotOpen slot d then d
  else if steals slot d then stealSlot slot d
  else if pollDue slot d then answerPoll slot d
  else d

/-! ### The contention slot (R108 to R110, R119) -/

/-- A pending TRACK is sent, and the lane becomes EMPTY (R119). -/
def sendTrack (slot : Nat) (d : Device) : Device :=
  match d.uplink.lane with
  | .track r =>
    if trackPending d then
      laneReport .track (setLane .empty (send slot (blockOf none 0 1 (.track r) d) d))
    else d
  | _ => d

/-- The content of a logon attempt (R80, R86). -/
def logonContent (kind : LogonKind) (d : Device) : Content :=
  match kind with
  | .logon => .logon (identityInForce d)
  | .resume => .resume (identityInForce d).cab (d.channel.address.getD 0)

/-- A handed attempt is sent, and waits for its answer (R81). -/
def sendLogon (slot : Nat) (d : Device) : Device :=
  match d.channel.logon with
  | some l =>
    if logonHanded d then
      onLogon (fun x => { x with wait := .sent (cycleNumber d) })
        (send slot (blockOf none 0 1 (logonContent l.kind d) d) d)
    else d
  | none => d

/-- What an entry becomes at the transmission of its first block or its SLOT_REQUEST (R109, R110, R145). -/
def entrySent (d : Device) (x : Entry) : Entry :=
  { x with state := .inFlight
           unmetered := if x.msg = .status then d.uplink.unmeteredOwed else x.unmetered
           carried := if x.msg = .status then d.offers.booking else x.carried }

/-- A message of one block goes (R109). -/
def sendSingle (slot : Nat) (e : Entry) (d : Device) : Device :=
  let d1 := send slot (blockOf e.seq 0 1 (messageContent e.msg 0 d) d) (onEntry e.serial (entrySent d) d)
  setPhase e.serial (.ackWait (cycleNumber d1)) d1

/-- The SLOT_REQUEST of a longer message goes (R110). Its block index is 0 and its block count 1, which the manual gives
only for blocks without a sequence (log 44). -/
def sendRequest (slot : Nat) (e : Entry) (d : Device) : Device :=
  let d1 := send slot (blockOf e.seq 0 1 (.slotRequest e.msg.blocks) d) (onEntry e.serial (entrySent d) d)
  setPhase e.serial (.grantWait (cycleNumber d1)) d1

/-- The chosen entry goes, when it may still be sent (R108). -/
def sendEntry (slot serial : Nat) (d : Device) : Device :=
  match entryAt serial d with
  | none => d
  | some e =>
    if eligible d e then
      let (e1, d1) := giveSeq e d
      if e1.msg.blocks = 1 then sendSingle slot e1 d1 else sendRequest slot e1 d1
    else d

/-- The contention block of the plan has had its slot. -/
def takeContention (d : Device) : Device :=
  { d with uplink := { d.uplink with plan := d.uplink.plan.map fun p => { p with contention := none } } }

/-- The time of the planned contention slot (R108). -/
def slotContention (d : Device) : Device :=
  match d.uplink.plan.bind Plan.contention with
  | none => d
  | some (slot, use) =>
    if d.channel.view.isNone then d
    else
      let d1 := takeContention d
      match use with
      | .track => sendTrack slot d1
      | .logon => sendLogon slot d1
      | .entry serial => sendEntry slot serial d1

/-! ### The block as the radio port takes it (12, The uplink block) -/

/-- The code of an uplink kind. -/
def Content.code : Content → Nat
  | .logon _ => 0x81
  | .resume _ _ => 0x82
  | .slotRequest _ => 0x83
  | .emergency _ => 0x84
  | .cancel _ _ => 0x85
  | .track _ => 0x86
  | .bid _ => 0x88
  | .decline _ _ => 0x89
  | .noshow _ => 0x8A
  | .tripRecord _ => 0x8B
  | .shiftRecord _ => 0x8C
  | .status _ => 0x8D
  | .text _ _ => 0x8E
  | .cannedReply _ _ => 0x8F
  | .readReceipt _ => 0x90

/-- The 28 content bytes. 12 gives the layout of TEXT and of the accounting records; of the other kinds the manual gives
none, so their bytes are free, but for the cab identity that a block under address 0 carries in the first four (log 56).
Where TEXT and the records have fields of their own in those four bytes, their layout is kept (log 50). -/
def Content.bytes (identity : Option Nat) : Content → List Byte
  | .text n chars => padTo 28 (writeBytes 1 n ++ padTo 16 chars)
  | .tripRecord bs => padTo 28 bs
  | .shiftRecord bs => padTo 28 bs
  | c =>
    match identity with
    | some i => padTo 28 (writeBytes 4 i ++ Config.layout c)
    | none => padTo 28 (Config.layout c)

/-- The common part of an uplink block before its content: bytes 0 to 5 (12, The uplink block). -/
def UplinkBlock.front (b : UplinkBlock) : List Byte :=
  writeBytes 2 b.address ++ writeBytes 1 b.content.code ++ writeBytes 1 (b.seq.getD 255)
    ++ writeBytes 1 b.index ++ writeBytes 1 b.count

/-- The 36 bytes of an uplink block: the common part, the content and the CRC (R202; 12, The uplink block). -/
def UplinkBlock.bytes (b : UplinkBlock) : List Byte :=
  let inner := b.front ++ b.content.bytes b.identity
  inner ++ writeBytes 2 (crc16 inner)

end Sys2Proof.Machine
end

