-- ==== Sys2Proof/Machine/Owners.lean ====
section
/-! DEFINITION. What each owner does with a request of the host: the Fare Meter (01), the Tariff Store (04), the Offer
Table (07) and Sign and Display (10). The checks stand in the order of the owner's rule; where the rule does not place
the check of the body's length, it stands where R191 places it. -/

namespace Sys2Proof.Machine

open Sys2Proof

/-! ### Fare Meter (R1, R3, R4, R10 to R13, R16, R18, R19) -/

/-- SHIFT_OPEN (R1, R3). -/
def askShiftOpen (body : List Byte) (d : Device) : Answer × Device :=
  if d.meter.state ≠ .offDuty ∨ d.tariff.load.isSome then refuse .wrongState d
  else
    withLength 0 body d
      (let d1 := openShift d
       okWith (.shiftNumber d1.meter.lastShift) d1)

/-- The tariff number a HIRE carries (12, Request bodies). -/
def givenTariff (body : List Byte) : Option Nat := if presence body 0 0 then some (byteAt body 1) else none

/-- HIRE in FOR_HIRE, with the set in force (R4). -/
def hireUnder (set : TariffSet) (body : List Byte) (d : Device) : Answer × Device :=
  match hireTariff (givenTariff body) set (scheduleResult d) with
  | .error r => refuse r d
  | .ok n =>
    match tariffAt set.tariffs n with
    | some t => ok (startTrip n t d)
    | none => refuse .notFound d

/-- HIRE (R1, R4). -/
def askHire (body : List Byte) (d : Device) : Answer × Device :=
  match d.meter.state, d.tariff.inForce with
  | .forHire, some set => withLength 2 body d (hireUnder set body d)
  | _, _ => refuse .wrongState d

/-- STOP (R1, R10). -/
def askStop (body : List Byte) (d : Device) : Answer × Device :=
  match d.meter.state, d.meter.trip with
  | .hired, some t => withLength 0 body d (okWith (.fareExtras t.fare t.extras) (stopTrip d))
  | _, _ => refuse .wrongState d

/-- RESUME (R1, R11). -/
def askResume (body : List Byte) (d : Device) : Answer × Device :=
  if d.meter.state ≠ .stopped then refuse .wrongState d
  else if d.meter.window = 0 then refuse .tooLate d
  else withLength 0 body d (ok (resumeTrip d))

/-- CLEAR (R1, R13). -/
def askClear (body : List Byte) (d : Device) : Answer × Device :=
  match d.meter.state, d.meter.trip with
  | .stopped, some t =>
    withLength 0 body d
      (let (number, d1) := clearTrip t d
       okWith (.recordNumber number) d1)
  | _, _ => refuse .wrongState d

/-- SHIFT_CLOSE (R1, R16). -/
def askShiftClose (body : List Byte) (d : Device) : Answer × Device :=
  match d.meter.state, d.meter.shift with
  | .forHire, some s =>
    withLength 0 body d
      (let (number, d1) := closeShift s d
       okWith (.recordNumber number) d1)
  | _, _ => refuse .wrongState d

/-- Supplement `i` of the set in force. -/
def supplementInForce (i : Nat) (d : Device) : Option Supplement :=
  d.tariff.inForce.bind fun set => place set.supplements i

/-- ADD_EXTRA on a trip (R12). -/
def extraOn (t : Trip) (body : List Byte) (d : Device) : Answer × Device :=
  if 7 < byteAt body 0 then refuse .outOfRange d
  else
    match supplementInForce (byteAt body 0) d with
    | none => refuse .notFound d
    | some s => okWith (.extras (addExtra s.amount t).extras) (onTrip (addExtra s.amount) d)

/-- ADD_EXTRA (R1, R12). -/
def askAddExtra (body : List Byte) (d : Device) : Answer × Device :=
  match d.meter.state, d.meter.trip with
  | .hired, some t => withLength 1 body d (extraOn t body d)
  | .stopped, some t => withLength 1 body d (extraOn t body d)
  | _, _ => refuse .wrongState d

/-- What METER_READ reports of a trip (R18). -/
def tripReport (t : Trip) (d : Device) : TripReport :=
  { number := t.number, tariff := t.tariff, used := t.used, phase := t.phase, pendingTariff := t.pendingTariff
    fare := t.fare, extras := t.extras, hiredMetres := metresOf (kInForce d) t.hiredEdges
    hiredSeconds := t.hiredTicks / 10, fixedPrice := t.fixedPrice, job := t.job, flags := t.flags
    window := d.meter.window, stop := t.stop }

/-- The trip part of a METER_READ, in HIRED and STOPPED (R18). -/
def tripReportNow (d : Device) : Option TripReport :=
  if d.meter.state = .hired ∨ d.meter.state = .stopped then d.meter.trip.map fun t => tripReport t d else none

/-- METER_READ (R18). -/
def askMeterRead (body : List Byte) (d : Device) : Answer × Device :=
  withLength 0 body d (okWith (.meter d.meter.state (d.meter.shift.map Shift.number) (tripReportNow d)) d)

/-- The shift totals without their residues (R19). -/
def shiftReport (s : Shift) : ShiftReport :=
  { number := s.number, opened := s.opened, trips := s.trips, totalMetres := s.totalMetres
    hiredMetres := s.hiredMetres, fareTotal := s.fareTotal, extrasTotal := s.extrasTotal, unmetered := s.unmetered
    emergencies := s.emergencies }

/-- TOTALS_READ (R19). -/
def askTotalsRead (body : List Byte) (d : Device) : Answer × Device :=
  withLength 0 body d (okWith (.totals d.tariff.lifetime (d.meter.shift.map shiftReport)) d)

/-! ### Tariff Store (R60 to R68) -/

/-- The load state takes a staging set, or IDLE. -/
def setLoad (s : Option Staging) (d : Device) : Device := { d with tariff := { d.tariff with load := s } }

/-- The staging set a TARIFF_BEGIN fills (R60). -/
def beginStaging (d : Device) : Staging :=
  match d.tariff.inForce with
  | some set => set.toStaging
  | none => emptyStaging

/-- TARIFF_BEGIN (R60). -/
def askTariffBegin (body : List Byte) (d : Device) : Answer × Device :=
  if !d.tariff.switch.isOpen then refuse .locked d
  else if d.meter.state ≠ .uncalibrated ∧ d.meter.state ≠ .offDuty then refuse .wrongState d
  else if Config.count16Top ≤ d.tariff.revision then refuse .notPermitted d
  else
    withLength 0 body d
      (⟨.ok, if d.tariff.load.isSome then .restarted else .none, .revision d.tariff.revision⟩,
        setLoad (some (beginStaging d)) d)

/-- The mode a byte names (12, The TARIFF_ITEM body). -/
def modeOf (n : Nat) : Option TariffMode :=
  match n with
  | 1 => some .s
  | 2 => some .d
  | _ => none

/-- The parameters of a tariff lie in their ranges, D0 and T0 both zero or both non-zero (02, Derived step sizes; R63). -/
def tariffInRange (t : Tariff) : Bool :=
  decide (t.flagFall ≤ 99999) && decide (t.d0 ≤ 65535) && decide (t.t0 ≤ 3600) && decide (1 ≤ t.stepAmount ∧ t.stepAmount ≤ 9999)
    && decide (1 ≤ t.ds ∧ t.ds ≤ 5000) && decide (1 ≤ t.ts ∧ t.ts ≤ 3600) && ((t.d0 == 0) == (t.t0 == 0))

/-- The tariff the fields of a SET carry, when it is in range (R63). -/
def tariffOf (fields : List Byte) : Option Tariff :=
  (modeOf (byteAt fields 1)).bind fun mode =>
    let t : Tariff :=
      { mode, flagFall := field fields 2 3, d0 := field fields 5 2, t0 := field fields 7 2
        stepAmount := field fields 9 2, ds := field fields 11 2, ts := field fields 13 2 }
    if tariffInRange t then some t else none

/-- SET calibration constant (R63). -/
def setCalibration (fields : List Byte) (s : Staging) : Except Result Staging :=
  let k := field fields 0 2
  if 1000 ≤ k ∧ k ≤ 60000 then .ok { s with k := some k } else .error .outOfRange

/-- SET tariff (R63). -/
def setTariff (fields : List Byte) (s : Staging) : Except Result Staging :=
  let n := byteAt fields 0
  match tariffOf fields with
  | some t => if 1 ≤ n ∧ n ≤ 4 then .ok { s with tariffs := s.tariffs.set (n - 1) (some t) } else .error .outOfRange
  | none => .error .outOfRange

/-- REMOVE tariff (R63). -/
def removeTariff (fields : List Byte) (s : Staging) : Except Result Staging :=
  let n := byteAt fields 0
  if 1 ≤ n ∧ n ≤ 4 then .ok { s with tariffs := s.tariffs.set (n - 1) none } else .error .outOfRange

/-- SET default tariff (R63). -/
def setDefault (fields : List Byte) (s : Staging) : Except Result Staging :=
  let n := byteAt fields 0
  if 1 ≤ n ∧ n ≤ 4 then .ok { s with default := some n } else .error .outOfRange

/-- BAND_ADD (R64). -/
def addBand (fields : List Byte) (s : Staging) : Except Result Staging :=
  let b : Band := { days := BitVec.ofNat 8 (byteAt fields 0), start := field fields 1 2, tariff := byteAt fields 3 }
  if b.days = 0 then .error .malformed
  else if 1439 < b.start ∨ b.tariff < 1 ∨ 4 < b.tariff then .error .outOfRange
  else if s.schedule.any (clashes b) then .error .malformed
  else if Config.scheduleSize ≤ s.schedule.length then .error .outOfRange
  else .ok { s with schedule := insertBand b s.schedule }

/-- BAND_REMOVE (R64); a day code above 7 names no day (R62; 12, The TARIFF_ITEM body). -/
def removeBand (fields : List Byte) (s : Staging) : Except Result Staging :=
  let start := field fields 0 2
  let day := byteAt fields 2
  if 7 < day then .error .malformed
  else if 1439 < start then .error .outOfRange
  else .ok { s with schedule := s.schedule.filter fun b => !(b.start == start && b.onDay day) }

/-- SCHEDULE_CLEAR (R64). -/
def clearSchedule (s : Staging) : Except Result Staging := .ok { s with schedule := [] }

/-- SET supplement (R63). -/
def setSupplement (fields : List Byte) (s : Staging) : Except Result Staging :=
  let i := byteAt fields 0
  let p : Supplement := { amount := field fields 1 2, label := byteAt fields 3 }
  if i ≤ 7 ∧ 1 ≤ p.amount ∧ p.amount ≤ 9999 ∧ 1 ≤ p.label then
    .ok { s with supplements := s.supplements.set i (some p) }
  else .error .outOfRange

/-- REMOVE supplement (R63). -/
def removeSupplement (fields : List Byte) (s : Staging) : Except Result Staging :=
  let i := byteAt fields 0
  if i ≤ 7 then .ok { s with supplements := s.supplements.set i none } else .error .outOfRange

/-- SET display decimals (R63). -/
def setDecimals (fields : List Byte) (s : Staging) : Except Result Staging :=
  let n := byteAt fields 0
  if n ≤ 3 then .ok { s with decimals := n } else .error .outOfRange

/-- SET installation identity (R63). -/
def setIdentity (fields : List Byte) (s : Staging) : Except Result Staging :=
  let i : Identity := { cab := field fields 0 4, fleet := field fields 4 2 }
  if 1 ≤ i.cab ∧ 1 ≤ i.fleet then .ok { s with identity := some i } else .error .outOfRange

/-- What an item and an operation do, with the body length they require (12, The TARIFF_ITEM body). -/
def itemOperation (item op : Nat) (fields : List Byte) : Option (Nat × (Staging → Except Result Staging)) :=
  match item, op with
  | 1, 1 => some (4, setCalibration fields)
  | 2, 1 => some (17, setTariff fields)
  | 2, 2 => some (3, removeTariff fields)
  | 3, 1 => some (3, setDefault fields)
  | 4, 3 => some (6, addBand fields)
  | 4, 4 => some (5, removeBand fields)
  | 4, 5 => some (2, clearSchedule)
  | 5, 1 => some (6, setSupplement fields)
  | 5, 2 => some (3, removeSupplement fields)
  | 6, 1 => some (3, setDecimals fields)
  | 7, 1 => some (8, setIdentity fields)
  | _, _ => none

/-- An item is applied to the staging set, or refused with the staging set unchanged (R62). -/
def applyItem (s : Staging) (body : List Byte) : Except Result Staging :=
  match itemOperation (byteAt body 0) (byteAt body 1) (body.drop 2) with
  | none => .error .malformed
  | some (length, change) => if body.length = length then change s else .error .malformed

/-- TARIFF_ITEM (R62 to R64). -/
def askTariffItem (body : List Byte) (d : Device) : Answer × Device :=
  match d.tariff.load with
  | none => refuse .sequence d
  | some s =>
    match applyItem s body with
    | .ok s' => ok (setLoad (some s') d)
    | .error r => refuse r d

/-- The steps of a commit that completes (R66). -/
def installSet (set : TariffSet) (d : Device) : Device :=
  let d1 := { d with tariff :=
    { d.tariff with
      inForce := some set, derived := deriveAll set.k set.tariffs, revision := d.tariff.revision + 1
      totalResidue := 0, hiredResidue := 0, load := none } }
  let d2 := if d1.meter.state = .uncalibrated then meterTo .offDuty d1 else d1
  evaluate (takeIdentity d2)

/-- TARIFF_COMMIT (R65, R66). -/
def askTariffCommit (body : List Byte) (d : Device) : Answer × Device :=
  match d.tariff.load with
  | none => refuse .sequence d
  | some s =>
    withLength 0 body d
      (match checkSet s with
       | .error (r, f) => (⟨r, .none, .commitFault f⟩, d)
       | .ok set =>
         let d1 := installSet set d
         okWith (.revision d1.tariff.revision) d1)

/-- TARIFF_ABANDON (R67). -/
def askTariffAbandon (body : List Byte) (d : Device) : Answer × Device :=
  if d.tariff.load.isNone then refuse .sequence d else withLength 0 body d (ok (setLoad none d))

/-- The set a TARIFF_READ chooses, as a staging set; none when it is not held (R68). -/
def chosenSet (source : Nat) (d : Device) : Option Staging :=
  if source = 1 then d.tariff.inForce.map TariffSet.toStaging else d.tariff.load

/-- The selector of a TARIFF_READ lies in its range, its index with it (R68). -/
def selectorInRange (selector index : Nat) : Bool :=
  match selector with
  | 0 => true
  | 1 => true
  | 2 => decide (1 ≤ index ∧ index ≤ 4)
  | 3 => true
  | 4 => decide (index ≤ 11)
  | 5 => decide (index ≤ 7)
  | 6 => true
  | 7 => true
  | _ => false

/-- Np, Nt, Np0 and Nt0 of a tariff of the set in force (R68). -/
def readSizes (source n : Nat) (d : Device) : Option (Nat × Nat × Nat × Nat) :=
  if source = 1 then (derivedAt n d).map fun z => (z.np, z.nt, z.np0, z.nt0) else none

/-- The selected item of the chosen set (R68). -/
def readItem (source selector index : Nat) (s : Staging) (d : Device) : Option TariffItem :=
  match selector with
  | 0 => some (.summary d.tariff.revision (s.tariffs.map Option.isSome) (s.supplements.map Option.isSome) s.k s.default
      s.schedule.length s.decimals d.tariff.load.isSome)
  | 1 => s.k.map .calibration
  | 2 => (tariffAt s.tariffs index).map fun t => .tariff t (readSizes source index d)
  | 3 => s.default.map .default
  | 4 => s.schedule[index]?.map .band
  | 5 => (place s.supplements index).map .supplement
  | 6 => some (.decimals s.decimals)
  | 7 => s.identity.map .identity
  | _ => none

/-- TARIFF_READ with a body of the right length (R68). -/
def tariffRead (source selector index : Nat) (d : Device) : Answer × Device :=
  if source ≠ 1 ∧ source ≠ 2 then refuse .malformed d
  else if source = 2 ∧ d.tariff.load.isNone then refuse .sequence d
  else if !selectorInRange selector index then refuse .outOfRange d
  else
    match (chosenSet source d).bind fun s => readItem source selector index s d with
    | some i => okWith (.tariffItem i) d
    | none => refuse .notFound d

/-- TARIFF_READ (R68). R68 does not place the body's length, and its first check, of the source, is none of state: the
length stands before all four (log 7). -/
def askTariffRead (body : List Byte) (d : Device) : Answer × Device :=
  withLength 3 body d (tariffRead (byteAt body 0) (byteAt body 1) (byteAt body 2) d)

/-! ### Offer Table (R130, R131, R137, R142, R143, R146) -/

/-- The job number a request carries. -/
def jobOf (body : List Byte) : Nat := field body 0 3

/-- The refusal of a job number that no entry holds: TOO_LATE when it stands in the removal history (R130). -/
def missingJob (job : Nat) (d : Device) : Result := if d.offers.history.contains job then .tooLate else .notFound

/-- ACCEPT of an OFFERED entry (R130, check 5). -/
def bidFor (job : Nat) (d : Device) : Answer × Device :=
  match ask (.bid job) d with
  | (.added, d1) => ok (onOffer job (fun o => { o with state := .bidding false none }) d1)
  | _ => refuse .queueFull d

/-- ACCEPT of a job in range (R130). -/
def acceptJob (job : Nat) (d : Device) : Answer × Device :=
  match findOffer job d with
  | none => refuse (missingJob job d) d
  | some o =>
    match o.state with
    | .offered => bidFor job d
    | .bidding _ _ => already .none d
    | .active _ => refuse .wrongState d
    | .forward => refuse .wrongState d

/-- ACCEPT (R130). -/
def askAccept (body : List Byte) (d : Device) : Answer × Device :=
  withLength 3 body d (if jobInRange (jobOf body) then acceptJob (jobOf body) d else refuse .outOfRange d)

/-- A declined entry: its undelivered BID goes, then a DECLINE is asked for, then the entry leaves (R131). -/
def declineEntry (o : Offer) (d : Device) : Answer × Device :=
  let d1 := if o.bidUndelivered then removeBid o.job d else d
  let (asked, d2) := ask (.decline o.job .driver) d1
  okWith (.declineQueued (asked == .added)) (removeOffer .declined false o d2)

/-- DECLINE of a job in range (R131). -/
def declineJob (job : Nat) (d : Device) : Answer × Device :=
  match findOffer job d with
  | none => refuse (missingJob job d) d
  | some o => if o.isOpen then declineEntry o d else refuse .wrongState d

/-- DECLINE (R131). -/
def askDecline (body : List Byte) (d : Device) : Answer × Device :=
  withLength 3 body d (if jobInRange (jobOf body) then declineJob (jobOf body) d else refuse .outOfRange d)

/-- NOSHOW of a job in range (R137). -/
def noshowJob (job : Nat) (d : Device) : Answer × Device :=
  match findOffer job d with
  | none => refuse .notFound d
  | some o =>
    if o.state ≠ .active false then refuse .wrongState d
    else
      match ask (.noshow job) d with
      | (.added, d1) => ok (removeOffer .noshow false o d1)
      | _ => refuse .queueFull d

/-- NOSHOW (R137). -/
def askNoshow (body : List Byte) (d : Device) : Answer × Device :=
  withLength 3 body d (if jobInRange (jobOf body) then noshowJob (jobOf body) d else refuse .outOfRange d)

/-- Ticks as whole seconds, rounded up (R142). -/
def secondsUp (ticks : Nat) : Nat := (ticks + 9) / 10

/-- The detail text of an entry (R123). -/
def Offer.detail (o : Offer) : List Byte := o.detail0.getD [] ++ o.detail1.getD [] ++ o.detail2.getD []

/-- The state of an entry by name (R142). -/
def Offer.stateName (o : Offer) : OfferStateName :=
  match o.state with
  | .offered => .offered
  | .bidding _ _ => .bidding
  | .active _ => .awarded
  | .forward => .awarded

/-- The role of an entry (R142). -/
def Offer.role (o : Offer) : Option Role :=
  match o.state with
  | .active _ => some .active
  | .forward => some .forward
  | _ => none

/-- The award deadline of an entry (R142). -/
def Offer.deadline (o : Offer) : Option Nat :=
  match o.state with
  | .bidding _ n => n
  | _ => none

/-- The bid of an entry was delivered (R142). The field is of BIDDING alone (R123): an AWARDED entry reports no, even when its
bid had been delivered (log 53). -/
def Offer.bidWasDelivered (o : Offer) : Bool :=
  match o.state with
  | .bidding delivered _ => delivered
  | _ => false

/-- An entry as OFFER_LIST reports it (R142). The window count of an AWARDED entry is the one left at its ACCEPT or its AWARD
(log 62). -/
def Offer.line (o : Offer) : OfferLine :=
  { job := o.job, origin := o.origin, forward := o.forward, pickup := o.pickup, state := o.stateName, role := o.role
    inTrip := o.state == .active true, window := secondsUp o.count, delivered := o.bidWasDelivered
    deadline := o.deadline.map secondsUp, price := o.price, detailLength := o.detail.length }

/-- OFFER_LIST for one job (R142). -/
def listJob (job : Nat) (d : Device) : Answer × Device :=
  if !jobInRange job then refuse .outOfRange d
  else
    match findOffer job d with
    | some o => okWith (.offerOne o.line o.detail) d
    | none => refuse .notFound d

/-- OFFER_LIST (R142). -/
def askOfferList (body : List Byte) (d : Device) : Answer × Device :=
  withLength 4 body d
    (if presence body 0 0 then listJob (field body 1 3) d
     else okWith (.offerList d.offers.booking (d.offers.entries.map Offer.line)) d)

/-- BOOK that passes its checks (R143). -/
def bookZone (zone : Nat) (d : Device) : Answer × Device :=
  if bookingIn zone d then already .none d
  else ok (askStatus { d with offers := { d.offers with booking := .pending zone, answer := none } })

/-- BOOK (R143). -/
def askBook (body : List Byte) (d : Device) : Answer × Device :=
  let zone := byteAt body 0
  withLength 1 body d
    (if zone < 1 ∨ 250 < zone then refuse .outOfRange d
     else if d.meter.state ≠ .forHire ∨ d.channel.reg ≠ .registered then refuse .wrongState d
     else if d.emergency.state ≠ .quiet then refuse .notPermitted d
     else bookZone zone d)

/-- UNBOOK (R146). -/
def askUnbook (body : List Byte) (d : Device) : Answer × Device :=
  withLength 0 body d
    (if d.offers.booking = .none then already .none d
     else ok (askStatus { d with offers := { d.offers with booking := .none, answer := none } }))

/-! ### Sign and Display (R182 to R184) -/

/-- The lamp mode a byte names (12, Request bodies). -/
def lampModeOf (n : Nat) : Option LampMode :=
  match n with
  | 0 => some .off
  | 1 => some .on
  | 2 => some .slow
  | 3 => some .fast
  | _ => none

/-- The pattern four bytes name. -/
def patternOf (bs : List Byte) : Option Pattern :=
  match lampModeOf (byteAt bs 0), lampModeOf (byteAt bs 1), lampModeOf (byteAt bs 2), lampModeOf (byteAt bs 3) with
  | some a, some b, some c, some e => some ⟨a, b, c, e⟩
  | _, _, _, _ => none

/-- The `n` patterns a SIGN_LOAD carries; none when one of them holds a mode that is not a mode (R182). -/
def patternsOf (bs : List Byte) : Nat → Option (List Pattern)
  | 0 => some []
  | n + 1 =>
    match patternOf (bs.take 4), patternsOf (bs.drop 4) n with
    | some p, some ps => some (p :: ps)
    | _, _ => none

/-- Entries are written into successive places, the place after 7 being 0 (R182). -/
def writePatterns : Nat → List Pattern → List Pattern → List Pattern
  | _, [], table => table
  | i, p :: ps, table => writePatterns ((i + 1) % 8) ps (table.set i p)

/-- SIGN_LOAD (R182). -/
def askSignLoad (body : List Byte) (d : Device) : Answer × Device :=
  let start := byteAt body 0
  let count := byteAt body 1
  if body.length < 2 ∨ count < 1 ∨ 8 < count ∨ body.length ≠ 2 + 4 * count then refuse .malformed d
  else
    match patternsOf (body.drop 2) count with
    | none => refuse .outOfRange d
    | some ps =>
      if 7 < start then refuse .outOfRange d
      else if 7 ≤ start + count - 1 ∧ !d.tariff.switch.isOpen then refuse .locked d
      else
        okWith (.selected (toldEntry d)) { d with sign := { d.sign with table := writePatterns start ps d.sign.table } }

/-- The blank flag takes a value and the selection is made again (R183). -/
def setBlank (b : Bool) (d : Device) : Answer × Device :=
  let d1 := refreshSign { d with sign := { d.sign with blank := b } }
  okWith (.blank b (toldEntry d1)) d1

/-- SIGN_BLANK (R183). -/
def askSignBlank (body : List Byte) (d : Device) : Answer × Device :=
  withLength 1 body d
    (match byteAt body 0 with
     | 0 => setBlank false d
     | 1 => setBlank true d
     | _ => refuse .outOfRange d)

/-- SIGN_READ (R184). -/
def askSignRead (body : List Byte) (d : Device) : Answer × Device :=
  withLength 0 body d (okWith (.sign d.sign.table d.sign.blank d.items.polarity (toldEntry d)) d)

end Sys2Proof.Machine
end

