-- ==== Sys2Proof/Machine/Link.lean ====
section
/-! DEFINITION. The Host Link (11): STATUS, the configuration, RESET, the taking of requests, the receiver and the
transmitter. -/

namespace Sys2Proof.Machine

open Sys2Proof

/-! ### STATUS, IDENTIFY (R194, R195, R198) -/

/-- The emergency state a STATUS shows (R175, R195). -/
def shownEmergency (d : Device) : EmState := if d.items.covert then .quiet else d.emergency.state

/-- The STATUS reply (R195). -/
def statusReply (d : Device) : StatusReply :=
  { meter := d.meter.state
    reg := d.channel.reg
    address := d.channel.address
    emergency := shownEmergency d
    switchOpen := d.tariff.switch.isOpen
    clockSet := d.vehicle.calendar.time.isSome
    booking := d.offers.booking
    crcErrors := d.link.crcErrors
    queueFill := d.uplink.entries.length
    storeFill := d.store.records.length
    unread := (d.mail.mail.filter fun m => m.state == .unread).length
    sticky := d.link.sticky }

/-- STATUS: the conditions set are reported and cleared (R194, R195). -/
def askStatusRead (body : List Byte) (d : Device) : Answer × Device :=
  withLength 0 body d (okWith (.status (statusReply d)) (onSticky (fun _ => .clear) d))

/-- IDENTIFY (R198). -/
def askIdentify (body : List Byte) (d : Device) : Answer × Device :=
  withLength 0 body d (okWith (.identify Config.partRevision (identityInForce d) d.tariff.revision) d)

/-! ### Configuration (R196, R197) -/

/-- Change the stored items. -/
def onItems (f : Items → Items) (d : Device) : Device := { d with items := f d.items }

/-- A byte that is 0 or 1 (12, Request bodies). -/
def flagOf (n : Nat) : Option Bool :=
  match n with
  | 0 => some false
  | 1 => some true
  | _ => none

/-- SET_CONFIG of the arbitration mode (R106, R196). -/
def configArbitration (value : List Byte) (d : Device) : Answer × Device :=
  withLength 1 value d
    (match flagOf (byteAt value 0) with
     | none => refuse .outOfRange d
     | some b =>
       let m : Arbitration := if b then .rotating else .fixed
       okWith (.items [.arbitration m]) (onItems (fun x => { x with arbitration := m }) d))

/-- SET_CONFIG of covert mode (R175, R196). -/
def configCovert (value : List Byte) (d : Device) : Answer × Device :=
  withLength 1 value d
    (match flagOf (byteAt value 0) with
     | none => refuse .outOfRange d
     | some b => okWith (.items [.covert b]) (onItems (fun x => { x with covert := b }) d))

/-- SET_CONFIG of the track interval, clamped to 5..60 s (R169, R196). -/
def configTrack (value : List Byte) (d : Device) : Answer × Device :=
  withLength 1 value d
    (let n := max 5 (min 60 (byteAt value 0))
     okWith (.items [.trackInterval n]) (onItems (fun x => { x with trackInterval := n }) d))

/-- The network ids an acceptance list carries (12, Request bodies). -/
def networksOf (value : List Byte) : List Nat :=
  (List.range (byteAt value 0)).map fun i => field value (1 + 2 * i) 2

/-- SET_CONFIG of the acceptance list (R91, R196): a length that the count does not match, and two equal ids, are
MALFORMED. -/
def configAcceptance (value : List Byte) (d : Device) : Answer × Device :=
  let count := byteAt value 0
  let ids := networksOf value
  if count < 1 ∨ 4 < count ∨ value.length ≠ 1 + 2 * count ∨ ¬ ids.Nodup then refuse .malformed d
  else okWith (.items [.acceptance ids]) (onItems (fun x => { x with acceptance := ids }) d)

/-- The sensor mode a byte names (12, Request bodies). -/
def sensorModeOf (n : Nat) : Option SensorMode :=
  match n with
  | 1 => some .quadrature
  | 2 => some .single
  | _ => none

/-- SET_CONFIG of the sensor mode (R47, R196). -/
def configSensor (value : List Byte) (d : Device) : Answer × Device :=
  withLength 1 value d
    (if !d.tariff.switch.isOpen then refuse .locked d
     else
       match sensorModeOf (byteAt value 0) with
       | none => refuse .outOfRange d
       | some m => okWith (.items [.sensorMode m]) (changeSensorMode m d))

/-- The occupancy check is turned on or off; off resets the count (R23). -/
def changeOccupancyCheck (b : Bool) (d : Device) : Device :=
  let d1 := onItems (fun x => { x with occupancyCheck := b }) d
  if b then d1 else resetUnmetered d1

/-- SET_CONFIG of the occupancy check (R23, R196). -/
def configOccupancy (value : List Byte) (d : Device) : Answer × Device :=
  withLength 1 value d
    (match flagOf (byteAt value 0) with
     | none => refuse .outOfRange d
     | some b => okWith (.items [.occupancyCheck b]) (changeOccupancyCheck b d))

/-- The polarity of lamp `n`, 1..4, is set (R180). -/
def setLampPolarity (n : Nat) (inverted : Bool) (p : Polarity) : Option Polarity :=
  match n with
  | 1 => some { p with l1 := inverted }
  | 2 => some { p with l2 := inverted }
  | 3 => some { p with l3 := inverted }
  | 4 => some { p with l4 := inverted }
  | _ => none

/-- SET_CONFIG of one lamp's polarity (R180, R196). "The value as stored" in the reply is all four polarities (log 49). -/
def configPolarity (value : List Byte) (d : Device) : Answer × Device :=
  withLength 2 value d
    (match (flagOf (byteAt value 1)).bind fun b => setLampPolarity (byteAt value 0) b d.items.polarity with
     | none => refuse .outOfRange d
     | some p => okWith (.items [.polarity p]) (onItems (fun x => { x with polarity := p }) d))

/-- SET_CONFIG (R196). -/
def askSetConfig (body : List Byte) (d : Device) : Answer × Device :=
  let value := body.drop 1
  match byteAt body 0 with
  | 1 => configArbitration value d
  | 2 => configCovert value d
  | 3 => configTrack value d
  | 4 => configAcceptance value d
  | 5 => configSensor value d
  | 6 => configOccupancy value d
  | 7 => configPolarity value d
  | _ => refuse .malformed d

/-- The item with this code as stored (R197). -/
def itemAt (n : Nat) (x : Items) : Option Item :=
  match n with
  | 1 => some (.arbitration x.arbitration)
  | 2 => some (.covert x.covert)
  | 3 => some (.trackInterval x.trackInterval)
  | 4 => some (.acceptance x.acceptance)
  | 5 => some (.sensorMode x.sensorMode)
  | 6 => some (.occupancyCheck x.occupancyCheck)
  | 7 => some (.polarity x.polarity)
  | _ => none

/-- GET_CONFIG (R197): code 0 asks for all seven. -/
def askGetConfig (body : List Byte) (d : Device) : Answer × Device :=
  withLength 1 body d
    (if byteAt body 0 = 0 then okWith (.items ([1, 2, 3, 4, 5, 6, 7].filterMap fun n => itemAt n d.items)) d
     else
       match itemAt (byteAt body 0) d.items with
       | some i => okWith (.items [i]) d
       | none => refuse .malformed d)

/-! ### RESET (R199) -/

/-- A STARTED notice with its fields (R199, R200). -/
def startedNotice (cause : StartCause) (d : Device) : Notice :=
  .started cause d.meter.state d.channel.reg d.tariff.revision Config.partRevision

/-- Step 1: the link's queues, conditions and counts (R199). -/
def resetLink (d : Device) : Device :=
  { d with link :=
      { d.link with rx := .hunting, input := [], notices := [], crcErrors := 0, sticky := .clear } }

/-- The Offer Table when it is emptied (R147). -/
def emptyOffers : OfferTable :=
  { entries := [], history := [], booking := .none, lastTold := .none, answer := none }

/-- The Uplink Queue when a host RESET empties it: the uses of the cycle's slots are discarded (R122, log 16). -/
def emptiedUplink (u : Uplink) : Uplink :=
  { u with
    entries := [], inFlight := none, pointer := 1, nextSeq := 0, statusOwed := false, accountingOwed := false
    unmeteredOwed := false, lane := .empty
    plan := u.plan.map fun p => { p with polls := [], contention := none } }

/-- Every mark of the Trip Store returns to WAITING (R25, R26). -/
def allWaiting (s : TripStore) : TripStore := { s with records := s.records.map fun r => { r with mark := .waiting } }

/-- Step 2, the blocks but for the channel and the sign (R26, R55, R57, R67, R122, R147, R162, R178). -/
def resetBlocks (d : Device) : Device :=
  { d with
    tariff := { d.tariff with load := none }
    vehicle := { d.vehicle with unmetered := .reset, fix := none }
    store := allWaiting d.store
    uplink := emptiedUplink d.uplink
    offers := emptyOffers
    mail := newMailbox
    emergency := quietRecord d.emergency }

/-- Step 2 whole: the sign's selection is made again and the current record is sent once more (R186, R187). -/
def resetAll (d : Device) : Device :=
  let d1 := refreshSign (makeAccounting (resetChannel (resetBlocks d)))
  sendRecord (displayRecord d1) d1

/-- RESET (R199). The length of its body is judged after the state (R191). -/
def askReset (body : List Byte) (d : Device) : Answer × Device :=
  if (d.meter.state = .uncalibrated ∨ d.meter.state = .offDuty) ∧ d.emergency.state = .quiet then
    withLength 0 body d
      (let d1 := resetAll (resetLink d)
       ok (notify (startedNotice .hostReset d1) d1))
  else refuse .wrongState d

/-! ### Taking requests (R191) -/

/-- The owner of each request kind, by its code (R191; 12, Kind codes). -/
def ownerOf (kind : Nat) : Option (List Byte → Device → Answer × Device) :=
  match kind with
  | 0x01 => some askShiftOpen
  | 0x02 => some askHire
  | 0x03 => some askStop
  | 0x04 => some askResume
  | 0x05 => some askClear
  | 0x06 => some askShiftClose
  | 0x07 => some askAddExtra
  | 0x08 => some askMeterRead
  | 0x09 => some askTotalsRead
  | 0x10 => some askTariffBegin
  | 0x11 => some askTariffItem
  | 0x12 => some askTariffCommit
  | 0x13 => some askTariffAbandon
  | 0x14 => some askTariffRead
  | 0x18 => some askClockSet
  | 0x19 => some askPosition
  | 0x1C => some askRescan
  | 0x20 => some askAccept
  | 0x21 => some askDecline
  | 0x22 => some askNoshow
  | 0x23 => some askOfferList
  | 0x24 => some askBook
  | 0x25 => some askUnbook
  | 0x28 => some askMailList
  | 0x29 => some askMailRead
  | 0x2A => some askMailReply
  | 0x2B => some askMailDelete
  | 0x2C => some askSendText
  | 0x30 => some askRaise
  | 0x31 => some askCancel
  | 0x34 => some askSignLoad
  | 0x35 => some askSignBlank
  | 0x36 => some askSignRead
  | 0x38 => some askStatusRead
  | 0x39 => some askSetConfig
  | 0x3A => some askGetConfig
  | 0x3B => some askIdentify
  | 0x3C => some askReset
  | _ => none

/-- A frame is judged, and its owner does what its rule states (R191). -/
def judgeFrame (f : Frame) (d : Device) : Answer × Device :=
  if f.tag = 0 then refuse .malformed d
  else
    match ownerOf f.kind.toNat with
    | none => refuse .unknownKind d
    | some owner => owner f.body d

/-- The reply to a frame (R192). -/
def makeReply (f : Frame) (a : Answer) : Reply :=
  { kind := f.kind, tag := f.tag, result := a.result, indicator := a.indicator, data := a.data }

/-- A frame is in hand (R191). -/
def takeInHand (f : Frame) (rest : List Frame) (d : Device) : Device :=
  { d with link := { d.link with input := rest, inHand := some ⟨f.kind, f.tag⟩ } }

/-- A reply waits to be sent (R193). -/
def replyWaits (r : Reply) (d : Device) : Device := { d with link := { d.link with replyWaiting := some r } }

/-- A frame is taken: its effect is complete before its reply is made (R191, R193). -/
def takeFrame (f : Frame) (rest : List Frame) (d : Device) : Device :=
  let (a, d1) := judgeFrame f (takeInHand f rest d)
  finish (replyWaits (makeReply f a) d1)

/-- The link can take a request: none in hand, no reply waiting, accepting (R191). -/
def linkFree (d : Device) : Bool := d.link.accepting && d.link.inHand.isNone && d.link.replyWaiting.isNone

/-- The oldest frame in the input queue is taken, when the link can take one (R191). -/
def serve (d : Device) : Device :=
  if linkFree d then
    match d.link.input with
    | f :: rest => takeFrame f rest d
    | [] => d
  else d

/-- A checked frame joins the input queue, or is dropped at a full queue (R190); it is taken at once when the link can
take it. -/
def offerFrame (f : Frame) (d : Device) : Device :=
  if d.link.input.length < Config.inputSize then
    serve { d with link := { d.link with input := d.link.input ++ [f] } }
  else setLinkOverrun d

/-- A checked request frame of this kind arrives (R190). From a supply warning on it is discarded (R201). -/
def request (kind tag : Byte) (body : List Byte) (d : Device) : Device :=
  if held d then d else offerFrame ⟨kind, tag, body⟩ d

/-! ### The receiver (R188, R189) -/

/-- The receiver takes a value. -/
def setRx (r : Receiver) (d : Device) : Device := { d with link := { d.link with rx := r } }

/-- A frame is dropped and counted; the receiver goes to HUNTING (R188, R189). -/
def dropFrame (d : Device) : Device :=
  { d with link := { d.link with rx := .hunting, crcErrors := satAdd Config.count8Top d.link.crcErrors 1 } }

/-- A complete frame whose CRC agrees with its bytes (R189). -/
def frameGood (bytes : List Byte) : Bool :=
  field bytes (bytes.length - 2) 2 == crc16 ((bytes.drop 1).take (bytes.length - 3))

/-- The request in a frame's bytes (12, The host frame). -/
def frameOf (bytes : List Byte) : Frame :=
  { kind := bytes.getD 2 0, tag := bytes.getD 3 0, body := (bytes.drop 4).take (bytes.length - 6) }

/-- A frame is complete (R189). -/
def frameComplete (bytes : List Byte) (d : Device) : Device :=
  if frameGood bytes then offerFrame (frameOf bytes) (setRx .hunting d) else dropFrame d

/-- A byte added to a frame in progress (R188, R189). -/
def frameByte (bytes : List Byte) (d : Device) : Device :=
  if 2 ≤ bytes.length ∧ Config.bodyTop < byteAt bytes 1 then dropFrame d
  else if 2 ≤ bytes.length ∧ bytes.length = byteAt bytes 1 + 6 then frameComplete bytes d
  else setRx ⟨bytes, 0, true⟩ d

/-- A byte arrives on the line (R188). From a supply warning on it is discarded (R201). -/
def lineByte (b : Byte) (d : Device) : Device :=
  if held d then d
  else
    match d.link.rx.bytes with
    | [] => if b = startByte then setRx ⟨[b], 0, true⟩ d else d
    | bs => frameByte (bs ++ [b]) d

/-- The bytes of a frame arrive one by one (R188). -/
def lineBytes (bs : List Byte) (d : Device) : Device := bs.foldl (fun x b => lineByte b x) d

/-- The receiver's tick: two ticks in a row without a byte discard the frame in progress (R188). -/
def gapTick (d : Device) : Device :=
  let r := d.link.rx
  if r.bytes = [] then d
  else if r.byteSeen then setRx { r with gap := 0, byteSeen := false } d
  else if r.gap = 0 then setRx { r with gap := 1 } d
  else dropFrame d

/-- The coming tick is the second in a row without a byte (R188). -/
def gapDue (d : Device) : Bool := d.link.rx.bytes != [] && !d.link.rx.byteSeen && d.link.rx.gap != 0

/-! ### The frames the part sends (R192, R193; 12, The host frame) -/

/-- The value of a result code (12, The host frame). -/
def Result.code : Result → Byte
  | .ok => 0x00
  | .unknownKind => 0x01
  | .malformed => 0x02
  | .outOfRange => 0x03
  | .wrongState => 0x04
  | .notPermitted => 0x05
  | .locked => 0x06
  | .sequence => 0x07
  | .stepRange => 0x08
  | .incomplete => 0x09
  | .queueFull => 0x0A
  | .notFound => 0x0B
  | .tooLate => 0x0C
  | .onlyBase => 0x0D

/-- The value of an indicator (12, The host frame). -/
def Indicator.code : Indicator → Byte
  | .none => 0x00
  | .restarted => 0x01
  | .already => 0x02

/-- A kind marked as a reply: the request's code plus 80h (12, Kind codes). A frame whose kind is 80h or more is answered
too (R191), and its sum is no byte: a free value stands there (log 51). -/
def replyKind (kind : Byte) : Byte :=
  if kind.toNat < 128 then BitVec.ofNat 8 (kind.toNat + 128) else Config.replyKindAbove kind

/-- The first bytes of a reply's frame after its length: the kind marked as a reply and the tag, then the result code and
the indicator, with which the body begins (R192; 12, The host frame). -/
def Reply.front (r : Reply) : List Byte := [replyKind r.kind, r.tag, r.result.code, r.indicator.code]

/-- The kind code of a notice (12, Kind codes). -/
def Notice.code : Notice → Byte
  | .started _ _ _ _ _ => 0x40
  | .registration _ _ _ _ => 0x41
  | .delivered _ _ => 0x42
  | .failed _ _ _ => 0x43
  | .offer _ _ => 0x44
  | .offerRemoved _ _ _ => 0x45
  | .jobAwarded _ _ => 0x46
  | .jobPromoted _ => 0x46
  | .jobNotHeld _ _ => 0x46
  | .zone _ _ => 0x47
  | .newMail _ _ _ _ => 0x48
  | .mailEvicted _ _ _ => 0x49
  | .emergencyPanic _ _ _ => 0x4A
  | .emergency _ _ _ => 0x4A
  | .switch _ => 0x4B
  | .loadAborted => 0x4C
  | .sensorFault => 0x4D
  | .distanceImplausible => 0x4E
  | .unmetered => 0x4F

/-- The tag of every notice (R193). -/
def noticeTag : Byte := 0

/-- The first bytes of a notice's frame after its length: its kind and tag 0 (R193; 12, The host frame). -/
def Notice.front (n : Notice) : List Byte := [n.code, noticeTag]

/-- The first bytes, after its length, of the frame that the transmitter is sending (R192, R193). -/
def Transmitter.front : Transmitter → List Byte
  | .idle => []
  | .reply r => r.front
  | .notice n => n.front

/-- The bytes of a reply's data. The data of a reply that has none, a TARIFF_ITEM's among them, is no byte; any other carries
the fields its rule names in no layout that the manual fixes: free bytes (log 56). -/
def ReplyData.bytes : ReplyData → List Byte
  | .none => []
  | x => (Config.layout x).take 198

/-- A reply as a frame: its kind and tag, and a body of the result code, the indicator and the data (R192; 12). -/
def Reply.frame (r : Reply) : Frame := ⟨replyKind r.kind, r.tag, r.result.code :: r.indicator.code :: r.data.bytes⟩

/-- The body of a notice: no byte where its rule names no field, else free bytes, since the manual fixes no layout
(log 56). -/
def Notice.body : Notice → List Byte
  | .loadAborted | .sensorFault | .distanceImplausible | .unmetered => []
  | n => (Config.layout n).take 200

/-- A notice as a frame, under tag 0 (R193; 12). -/
def Notice.frame (n : Notice) : Frame := ⟨n.code, noticeTag, n.body⟩

/-- The bytes of the frame that the transmitter is sending: start byte, body length, kind, tag, body and CRC (R192, R193,
R202; 12, The host frame). -/
def Transmitter.bytes : Transmitter → List Byte
  | .idle => []
  | .reply r => frameBytes r.frame
  | .notice n => frameBytes n.frame

/-! ### The transmitter (R193) -/

/-- The request in hand ends when its reply has been sent whole (R191). -/
def sentWhole (d : Device) : Device :=
  match d.link.tx with
  | .idle => d
  | .reply _ => { d with link := { d.link with tx := .idle, inHand := none } }
  | .notice _ => { d with link := { d.link with tx := .idle } }

/-- The last byte of the frame being sent has gone: the transmitter takes what waits, and the next request is taken
(R191, R193). -/
def transmitted (d : Device) : Device :=
  match d.link.tx with
  | .idle => d
  | _ => serve (pump (sentWhole d))

end Sys2Proof.Machine
end

