-- ==== Sys2Proof/Machine/Power.lean ====
section
/-! DEFINITION. Loss of supply and start-up (R24, R25, R49, R176, R177, R200, R201), and the tick (R43). -/

namespace Sys2Proof.Machine

open Sys2Proof

/-! ### The supply warning (R24, R38, R49, R67, R176, R186, R201) -/

/-- What the Fare Meter saves (R24). -/
def savedMeter (m : Meter) : SavedMeter :=
  { state := m.state, trip := if m.state = .hired ∨ m.state = .stopped then m.trip else none, shift := m.shift }

/-- What the Emergency Controller saves (R176). -/
def savedEmergency (e : Emergency) : SavedEmergency :=
  { state := e.state, number := e.number, time := e.time, alarmSent := e.alarmSent, cancelSent := e.cancelSent }

/-- Everything saved in backed storage (R24, R38, R176). -/
def savedState (d : Device) : Saved :=
  { meter := savedMeter d.meter, totalResidue := d.tariff.totalResidue, hiredResidue := d.tariff.hiredResidue
    emergency := savedEmergency d.emergency }

/-- The power interruptions increase by one (R24, R72). -/
def countInterruption (d : Device) : Device :=
  onLifetime (fun l => { l with powerInterruptions := satAdd Config.count16Top l.powerInterruptions 1 }) d

/-- The link stops accepting; the frames and the notices that wait are lost (R201). -/
def holdLink (l : Link) : Link := { l with rx := .hunting, input := [], notices := [], accepting := false }

/-- The supply warning input is active. -/
def setWarning (b : Bool) (d : Device) : Device := { d with pins := { d.pins with supplyWarning := b } }

/-- The supply warning input goes active (R24, R49, R67, R122, R176, R186, R201). -/
def warn (d : Device) : Device :=
  let d1 := countInterruption { d with backed := some (savedState d) }
  setWarning true
    { d1 with
      link := holdLink d1.link
      vehicle := { d1.vehicle with forward := 0, reverse := 0 }
      tariff := { d1.tariff with load := none }
      sign := { d1.sign with sending := none, waiting := none }
      ahead := .clear }

/-! ### Power-on (R25, R51, R74, R97, R122, R147, R162, R177, R187, R200) -/

/-- The stop time of a restored trip: as saved, or the clock's reading at power-on (R25). -/
def restoredStop (now : Option Reading) (t : Trip) : Option Reading :=
  match t.stop with
  | some r => some r
  | none => now

/-- A restored trip (R25). -/
def restoredTrip (now : Option Reading) (t : Trip) : Trip :=
  { t with pendingTariff := none, stop := restoredStop now t, flags := { t.flags with powerInterrupted := true } }

/-- The meter as it comes up: the set in force and what backed storage holds decide (R25). -/
def restoredMeter (inForce : Option TariffSet) (saved : Option SavedMeter) (now : Option Reading) (lastShift : Nat) :
    Meter :=
  match inForce, saved.bind SavedMeter.shift, saved.bind SavedMeter.trip with
  | none, _, _ => { state := .uncalibrated, trip := none, shift := none, lastShift, window := 0, replaced := none }
  | some _, none, _ => { state := .offDuty, trip := none, shift := none, lastShift, window := 0, replaced := none }
  | some _, some s, none => { state := .forHire, trip := none, shift := some s, lastShift, window := 0, replaced := none }
  | some _, some s, some t =>
    { state := .stopped, trip := some (restoredTrip now t), shift := some s, lastShift, window := 0, replaced := none }

/-- Vehicle Inputs at power-on: the pair is the present levels (03, Reset values of Vehicle Inputs). -/
def startVehicle (p : Pins) (c : Calendar) : Vehicle :=
  { pairA := p.a, pairB := p.b, forward := 0, reverse := 0, debt := 0, phaseErrors := emptyWindow, fault := false
    implausible := false, calendar := c, panic := ⟨false, 0⟩, occupancy := ⟨false, 0⟩, unmetered := .reset, fix := none }

/-- The derived quantities are derived again (R27, R74). -/
def derivedAgain (inForce : Option TariffSet) : List (Option Derived) :=
  match inForce with
  | none => [none, none, none, none]
  | some set => deriveAll set.k set.tariffs

/-- The Tariff Store at power-on (R38, R59, R74). -/
def startTariff (t : TariffStore) (saved : Option Saved) : TariffStore :=
  { t with
    derived := derivedAgain t.inForce, load := none, scheduled := none, switch := ⟨false, 0⟩
    totalResidue := (saved.map Saved.totalResidue).getD 0, hiredResidue := (saved.map Saved.hiredResidue).getD 0 }

/-- The Channel Controller at power-on (R97). -/
def newChannel : Channel :=
  { reg := .searching, address := none, network := none, view := none, headerRx := .none, lastIntact := none
    lastAccepted := false, logon := none, loggedOnAs := none, lossTimer := 0, lostPeriod := none, holdTimer := 0 }

/-- The Uplink Queue at power-on, before its entries are made (R122). -/
def newUplink (lane : Lane) : Uplink :=
  { entries := [], nextOrder := 0, nextSerial := 0, inFlight := none, pointer := 1, nextSeq := 0, statusOwed := false
    accountingOwed := false, unmeteredOwed := false, lane, plan := none }

/-- The sign at power-on, before its first selection (R186, R187). -/
def startSign (s : Sign) : Sign :=
  { s with blank := false, flash := 0, last := none, sending := none, waiting := none }

/-- The Host Link at power-on, before STARTED (R200). -/
def newLink (interrupted : Bool) : Link :=
  { rx := .hunting, input := [], inHand := none, notices := [], tx := .idle, replyWaiting := none, crcErrors := 0
    sticky := { Sticky.clear with powerInterrupted := interrupted }, accepting := true }

/-- The emergency record at power-on (R177). -/
def startEmergency (interval : Nat) (saved : Option SavedEmergency) : Emergency :=
  match saved with
  | some s => restoreEmergency interval s
  | none => newEmergency

/-- Every block at its start values, the meter's state decided and the emergency record restored (R25, R177). A frame that
was still being sent and a reply that still waited are dropped, also at the release of a warning, where R201 would finish
them and R200 gives an IDLE transmitter: the model follows R200 (log 59). -/
def startBlocks (calendar : Calendar) (saved : Option Saved) (d : Device) : Device :=
  let now : Option Reading := calendar.time.map fun t => ⟨t.day, t.second⟩
  let emergency := startEmergency (trackInterval d) (saved.map Saved.emergency)
  { d with
    pins := { d.pins with supplyWarning := false }
    vehicle := startVehicle d.pins calendar
    tariff := startTariff d.tariff saved
    meter := restoredMeter d.tariff.inForce (saved.map Saved.meter) now d.meter.lastShift
    store := allWaiting d.store
    channel := newChannel
    uplink := newUplink (laneOf emergency.state)
    offers := emptyOffers
    mail := newMailbox
    emergency
    sign := startSign d.sign
    link := newLink (held d)
    backed := none
    radio := []
    ahead := .clear }

/-- The cause of the STARTED notice (R25). -/
def startCause (d : Device) : StartCause := if d.meter.trip.isSome then .powerOnTripSaved else .powerOn

/-- The notices of a power-on: STARTED, then EMERGENCY with cause RESTORED (R177, R200). -/
def startNotices (d : Device) : Device :=
  notifyIf (d.emergency.state != .quiet && !d.items.covert) (.emergency .restored d.emergency.state d.emergency.number)
    (notify (startedNotice (startCause d) d) d)

/-- The part starts with this clock and what was saved: the accounting entry, the STATUS the meter asks for, the
evaluation, the notices (R17, R25, R51, R101, R122). -/
def start (calendar : Calendar) (saved : Option Saved) (d : Device) : Device :=
  finish (startNotices (evaluate (askStatus (makeAccounting (startBlocks calendar saved d)))))

/-- The clock after an outage: it ran on for `backup` ticks, or the backup failed (R51). -/
def clockAfter (backup : Option Nat) (c : Calendar) : Calendar :=
  match backup with
  | some ticks => clockThrough ticks c
  | none => ⟨none, false⟩

/-- The supply returns (R25, R51, R177). -/
def powerUp (backup : Option Nat) (backedKept : Bool) (d : Device) : Device :=
  start (clockAfter backup d.vehicle.calendar) (if backedKept then d.backed else none) d

/-- The warning input goes inactive without the supply failing: the part starts as at power-on (R24). -/
def release (elapsed : Nat) (d : Device) : Device :=
  if held d then start (clockThrough elapsed d.vehicle.calendar) d.backed d else d

/-! ### The tick (R43) -/

/-- The end of an event: from a supply warning on no record is made and no selection changes (R180, R186). -/
def endEvent (d : Device) : Device := if held d then pump d else finish d

/-- Work of a tick that a command of its own may have taken ahead of it (log 8). -/
def unlessTaken (taken : Bool) (f : Device → Device) (d : Device) : Device := if taken then d else f d

/-- The levels the inputs are sampled at. -/
def setSamples (panic occupied switchOpen : Bool) (d : Device) : Device :=
  { d with pins := { d.pins with panic, occupied, switchOpen } }

/-- The timers that count ticks, after the meter and the clock (R115, R129, R132, R145, R169, R171, R188). -/
def timersTick (d : Device) : Device :=
  let d1 := answerTick (windowsTick d)
  let d2 := unlessTaken d.ahead.track trackTick (cancelWindowTick d1)
  gapTick (unlessTaken d.ahead.channel channelTick (holdTick d2))

/-- The inputs are sampled (R54, R55, R59). -/
def samplesTick (d : Device) : Device :=
  let d1 := unlessTaken d.ahead.panic (samplePanic d.pins.panic) d
  let d2 := unlessTaken d.ahead.occupancy (sampleOccupancy d.pins.occupied) d1
  unlessTaken d.ahead.switch (sampleSwitch d.pins.switchOpen) d2

/-- The work of a tick but for its end: the edges close and the meter takes p, the clock advances, the timers count,
the inputs are sampled, the fix ages (R43). -/
def tickWork (d : Device) : Device :=
  let (p, d1) := closeEdges d
  let d2 := unlessTaken d.ahead.clock clockTick (meterTick p d1)
  ageFix (samplesTick (timersTick d2))

/-- One tick of the timebase (R43); it does not run from a supply warning on. -/
def tick (panic occupied switchOpen : Bool) (d : Device) : Device :=
  let d1 := setSamples panic occupied switchOpen d
  if held d then d1 else finish { tickWork d1 with ahead := .clear }

/-! ### Work taken ahead of the coming tick (log 8) -/

/-- A command that takes a share of the coming tick's work when that share is due; otherwise nothing happens. -/
def takeWhen (due : Device → Bool) (f : Device → Device) (d : Device) : Device :=
  if !held d && due d then finish (f d) else d

/-- The clock's share is taken. -/
def markClock (d : Device) : Device := { d with ahead := { d.ahead with clock := true } }
/-- The clock takes its share of the coming tick, which is not the tick of the last accrual (R36, log 41). -/
def clockAhead (d : Device) : Device := markClock (clockTick (setReplaced none d))
/-- The panic sample is taken. -/
def markPanic (d : Device) : Device := { d with ahead := { d.ahead with panic := true } }
/-- The occupancy sample is taken. -/
def markOccupancy (d : Device) : Device := { d with ahead := { d.ahead with occupancy := true } }
/-- The switch sample is taken. -/
def markSwitch (d : Device) : Device := { d with ahead := { d.ahead with switch := true } }
/-- The track timer's count is taken. -/
def markTrack (d : Device) : Device := { d with ahead := { d.ahead with track := true } }
/-- The Channel Controller's count is taken. -/
def markChannel (d : Device) : Device := { d with ahead := { d.ahead with channel := true } }

/-- The resume window takes its last tick (R11). -/
def resumeWindowDue (d : Device) : Bool := d.meter.state == .stopped && d.meter.window == 1

/-- The fifth active sample in ARMED is due (R54). -/
def panicRaiseDue (d : Device) : Bool := !d.ahead.panic && !d.vehicle.panic.latched && d.vehicle.panic.count == 4

/-- The fifth inactive sample in LATCHED is due (R54). -/
def panicRearmDue (d : Device) : Bool := !d.ahead.panic && d.vehicle.panic.latched && d.vehicle.panic.count == 4

/-- The tenth differing sample is due (R55). -/
def levelDue (d : Device) : Bool := !d.ahead.occupancy && d.vehicle.occupancy.count == 9

/-- The fifth differing sample is due (R59). -/
def switchDue (d : Device) : Bool := !d.ahead.switch && d.tariff.switch.count == 4

/-- The occupancy input stands at the level that differs from the taken one. -/
def differingLevel (d : Device) : Device := { d with pins := { d.pins with occupied := !d.vehicle.occupancy.taken } }

/-- The switch input stands at the state that differs from the taken one. -/
def differingSwitch (d : Device) : Device := { d with pins := { d.pins with switchOpen := !d.tariff.switch.isOpen } }

/-- The panic input stands at a level. -/
def setPanicPin (b : Bool) (d : Device) : Device := { d with pins := { d.pins with panic := b } }

/-- The unmetered count takes the edges that bring it to 200 m (R41). -/
def takeUnmetered (d : Device) : Device := occupancyTick (usableNow d).p d

/-- A held accounting entry ends its hold at the coming tick (R115). -/
def holdDue (d : Device) : Bool := d.uplink.entries.any holdEnds

/-- The entries whose hold ends take their last tick (R115). -/
def takeHoldEnd (d : Device) : Device :=
  let ended := d.uplink.entries.filter holdEnds
  let change (e : Entry) : Entry := if holdEnds e then holdEntryTick e else e
  ended.foldl (fun x e => markRecordOf e.msg .waiting x)
    { d with uplink := { d.uplink with entries := d.uplink.entries.map change } }

/-- The cancel window takes its last tick (R171). -/
def cancelWindowDue (d : Device) : Bool := d.emergency.window == 1

/-- The track timer takes its last tick (R169). -/
def trackDue (d : Device) : Bool := !d.ahead.track && d.emergency.track == some 1

/-- The window of this job's OFFERED entry takes its last tick (R129). -/
def windowDue (job : Nat) (d : Device) : Bool :=
  (findOffer job d).any fun o => o.isOffered && o.count == 1

/-- The award deadline of this job's entry takes its last tick (R132). -/
def deadlineDue (job : Nat) (d : Device) : Bool :=
  (findOffer job d).any fun o => o.deadline == some 1

/-- The entry of a job is removed with its notice (R124). -/
def removeJob (reason : RemovalReason) (job : Nat) (d : Device) : Device :=
  match findOffer job d with
  | some o => removeOffer reason true o d
  | none => d

/-- The booking answer timer takes its last tick (R145). -/
def answerDue (d : Device) : Bool := d.offers.answer == some 1

end Sys2Proof.Machine
end

