-- ==== Sys2Proof/Machine/ExecTime.lean ====
section
/-! DEFINITION. The commands of the supply and of the timebase: power, the tick, and the parts of a tick that are rows of
their own (log 8). -/

namespace Sys2Proof.Machine

open Sys2Proof

/-- A command changes the part and nothing else: the commands that wait stay as they are. -/
def onDevice (f : Device → Device) (s : State) : Host.Outcome State Fault Refusal :=
  .next { s with dev := f s.dev }

/-- POWER_ON (R25, R51, R73, R177). -/
def execPowerOn (backup : Option Nat) (backedKept : Bool) (s : State) :
    Host.Outcome State Fault Refusal :=
  onDevice (powerUp backup backedKept) s

/-- SUPPLY_WARNING (R24, R49, R176, R201). A warning that is already active changes nothing. -/
def execSupplyWarning (s : State) :
    Host.Outcome State Fault Refusal :=
  onDevice (fun d => if held d then d else warn d) s

/-- SUPPLY_WARNING_RELEASE (R24). -/
def execSupplyWarningRelease (elapsed : Nat) (s : State) :
    Host.Outcome State Fault Refusal :=
  onDevice (release elapsed) s

/-- TICK (R43). -/
def execTick (panic occupied switchOpen : Bool) (s : State) :
    Host.Outcome State Fault Refusal :=
  onDevice (tick panic occupied switchOpen) s

/-- RESUME_WINDOW_EXPIRY (R11). -/
def execResumeWindowExpiry (s : State) :
    Host.Outcome State Fault Refusal :=
  onDevice (takeWhen resumeWindowDue windowTick) s

/-- UNMETERED_EVENT (R23, R41). -/
def execUnmeteredEvent (s : State) :
    Host.Outcome State Fault Refusal :=
  onDevice (takeWhen unmeteredDue takeUnmetered) s

/-- MINUTE_CHANGE (R50, R69). -/
def execMinuteChange (s : State) :
    Host.Outcome State Fault Refusal :=
  onDevice (takeWhen (fun d => !d.ahead.clock && minuteDue d) clockAhead) s

/-- CLOCK_DAY_RANGE_END (R50). -/
def execClockDayRangeEnd (s : State) :
    Host.Outcome State Fault Refusal :=
  onDevice (takeWhen (fun d => !d.ahead.clock && dayRangeDue d) clockAhead) s

/-- PANIC_RAISE (R54, R163 to R165). -/
def execPanicRaise (s : State) :
    Host.Outcome State Fault Refusal :=
  onDevice (takeWhen panicRaiseDue (fun d => markPanic (samplePanic true (setPanicPin true d)))) s

/-- PANIC_REARM (R54). -/
def execPanicRearm (s : State) :
    Host.Outcome State Fault Refusal :=
  onDevice (takeWhen panicRearmDue (fun d => markPanic (samplePanic false (setPanicPin false d)))) s

/-- OCCUPANCY_LEVEL_CHANGE (R23, R55). -/
def execOccupancyLevelChange (s : State) :
    Host.Outcome State Fault Refusal :=
  onDevice (takeWhen levelDue (fun d => markOccupancy (sampleOccupancy (!d.vehicle.occupancy.taken) (differingLevel d)))) s

/-- CALIBRATION_SWITCH_CHANGE (R59, R61). -/
def execCalibrationSwitchChange (s : State) :
    Host.Outcome State Fault Refusal :=
  onDevice (takeWhen switchDue (fun d => markSwitch (sampleSwitch (!d.tariff.switch.isOpen) (differingSwitch d)))) s

/-- FRAME_GAP_TIMEOUT (R188). -/
def execFrameGapTimeout (s : State) :
    Host.Outcome State Fault Refusal :=
  onDevice (takeWhen gapDue gapTick) s

/-- ACCOUNTING_HOLD_END (R115). -/
def execAccountingHoldEnd (s : State) :
    Host.Outcome State Fault Refusal :=
  onDevice (takeWhen holdDue takeHoldEnd) s

/-- HEADER_LOSS_TIMEOUT (R85). -/
def execHeaderLossTimeout (s : State) :
    Host.Outcome State Fault Refusal :=
  onDevice (takeWhen (fun d => !d.ahead.channel && lossDue d) (fun d => markChannel (channelTick d))) s

/-- LOST_PERIOD_EXPIRY (R87). -/
def execLostPeriodExpiry (s : State) :
    Host.Outcome State Fault Refusal :=
  onDevice (takeWhen (fun d => !d.ahead.channel && lostPeriodDue d) (fun d => markChannel (channelTick d))) s

/-- HOLD_TIMER_EXPIRY (R83). -/
def execHoldTimerExpiry (s : State) :
    Host.Outcome State Fault Refusal :=
  onDevice (takeWhen (fun d => !d.ahead.channel && logonHoldDue d) (fun d => markChannel (channelTick d))) s

/-- CANCEL_WINDOW_EXPIRY (R171). -/
def execCancelWindowExpiry (s : State) :
    Host.Outcome State Fault Refusal :=
  onDevice (takeWhen cancelWindowDue cancelWindowTick) s

/-- TRACK_TIMER_EXPIRY (R169). -/
def execTrackTimerExpiry (s : State) :
    Host.Outcome State Fault Refusal :=
  onDevice (takeWhen trackDue (fun d => markTrack (trackEnds d))) s

/-- OFFER_WINDOW_EXPIRY (R129). -/
def execOfferWindowExpiry (job : Nat) (s : State) :
    Host.Outcome State Fault Refusal :=
  onDevice (takeWhen (windowDue job) (removeJob .expired job)) s

/-- AWARD_DEADLINE_EXPIRY (R132). -/
def execAwardDeadlineExpiry (job : Nat) (s : State) :
    Host.Outcome State Fault Refusal :=
  onDevice (takeWhen (deadlineDue job) (removeJob .noAnswer job)) s

/-- ANSWER_TIMER_EXPIRY (R145). -/
def execAnswerTimerExpiry (s : State) :
    Host.Outcome State Fault Refusal :=
  onDevice (takeWhen answerDue answerEnds) s

end Sys2Proof.Machine
end

