-- ==== Sys2Proof/Machine/ExecPort.lean ====
section
/-! DEFINITION. The events of the wheel sensor, of the host line, of the transmitter, of the display output and of the
flash clock. -/

namespace Sys2Proof.Machine

open Sys2Proof

/-- The next phase error brings the window to 16 (R45). -/
def faultDue (d : Device) : Bool :=
  d.items.sensorMode == .quadrature && !d.vehicle.fault
    && decide (Config.phaseErrorLimit ≤ (addPhaseError d.vehicle.phaseErrors).sum)

/-- The display output has sent its record, and sends the waiting one (R186). -/
def displaySent (d : Device) : Device := { d with sign := { d.sign with sending := d.sign.waiting, waiting := none } }

/-- The flash clock moves on by 125 ms (R180). -/
def flashStep (d : Device) : Device := { d with sign := { d.sign with flash := (d.sign.flash + 1) % 8 } }

/-- WHEEL_EDGE (R44, R45, R47). -/
def execWheelEdge (a b : Bool) (s : State) :
    Host.Outcome State Fault Refusal :=
  onDevice (fun d => endEvent (wheelChange a b d)) s

/-- SENSOR_FAULT (R45): the phase error that brings the window to 16, both levels changing at once. -/
def execSensorFault (s : State) :
    Host.Outcome State Fault Refusal :=
  onDevice (takeWhen faultDue fun d => wheelChange (!d.vehicle.pairA) (!d.vehicle.pairB) d) s

/-- FRAME_RECEIVED (R188 to R190). -/
def execFrameReceived (bytes : List Byte) (s : State) :
    Host.Outcome State Fault Refusal :=
  onDevice (lineBytes bytes) s

/-- FRAME_LENGTH_OVERSIZE (R189). -/
def execFrameLengthOversize (length : Byte) (s : State) :
    Host.Outcome State Fault Refusal :=
  onDevice (lineByte length) s

/-- FRAME_START (R188). -/
def execFrameStart (s : State) :
    Host.Outcome State Fault Refusal :=
  onDevice (lineByte startByte) s

/-- TRANSMIT_COMPLETE (R191, R193). -/
def execTransmitComplete (s : State) :
    Host.Outcome State Fault Refusal :=
  onDevice transmitted s

/-- DISPLAY_RECORD_SENT (R186). -/
def execDisplayRecordSent (s : State) :
    Host.Outcome State Fault Refusal :=
  onDevice displaySent s

/-- FLASH_CLOCK (R180). -/
def execFlashClock (s : State) :
    Host.Outcome State Fault Refusal :=
  onDevice flashStep s

end Sys2Proof.Machine
end

