-- ==== Sys2Proof/Machine/ExecRadio.lean ====
section
/-! DEFINITION. The events of the radio port: the cycle and its header, the downlink blocks, the uplink slots. -/

namespace Sys2Proof.Machine

open Sys2Proof

/-- A block arrives where a header part may stand (R75). From a supply warning on no block is taken (R97). -/
def headerArrives (block : List Byte) (d : Device) : Device := if held d then d else finish (headerBlock block d)

/-- A block that no block of the part takes: it damages a header that is due, unless it is the part that is due (R75,
R93). -/
def discardBlock (block : List Byte) (d : Device) : Device :=
  if held d then d else if partGood block then finish (headerBlock block d) else endCollecting d

/-- A logon backoff has been found at 0 (R82). -/
def logonBackoffDue (d : Device) : Bool := d.channel.logon.map Logon.wait == some .backoffDue

/-- The tenth CANCEL block is the next to go, in the slot 0 of this cycle (R173). -/
def cancelLimitDue (d : Device) : Bool :=
  slotZeroDue d && d.uplink.lane == .cancel && d.emergency.state == .cancelling
    && d.emergency.cancelSent + 1 == Config.cancelLimit

/-- CYCLE_START (R75). -/
def execCycleStart (s : State) :
    Host.Outcome State Fault Refusal :=
  onDevice (fun d => endEvent (startCycle d)) s

/-- HEADER_PART (R75, R76, R78, R203). -/
def execHeaderPart (block : List Byte) (s : State) :
    Host.Outcome State Fault Refusal :=
  onDevice (headerArrives block) s

/-- DOWNLINK_BLOCK_DISCARDED (R75, R93). -/
def execDownlinkBlockDiscarded (block : List Byte) (s : State) :
    Host.Outcome State Fault Refusal :=
  onDevice (discardBlock block) s

/-- LOGON_BACKOFF_END (R82, log 9). -/
def execLogonBackoffEnd (s : State) :
    Host.Outcome State Fault Refusal :=
  onDevice (takeWhen logonBackoffDue settleLogon) s

/-- BACKOFF_END (R105, log 9). -/
def execBackoffEnd (order : Nat) (s : State) :
    Host.Outcome State Fault Refusal :=
  onDevice (takeWhen (fun _ => true) (settleOrder order)) s

/-- REASSEMBLY_TIMEOUT (R151, log 9). -/
def execReassemblyTimeout (buffer : BufferId) (s : State) :
    Host.Outcome State Fault Refusal :=
  onDevice (takeWhen (fun _ => true) (dropOverdueBuffer buffer)) s

/-- UPLINK_PHASE_START (R107). -/
def execUplinkPhaseStart (s : State) :
    Host.Outcome State Fault Refusal :=
  onDevice (fun d => if d.uplink.plan.isNone then endEvent (makePlan d) else d) s

/-- SLOT_EMERGENCY (R118). -/
def execSlotEmergency (s : State) :
    Host.Outcome State Fault Refusal :=
  onDevice (fun d => endEvent (slotZero d)) s

/-- SLOT_CONTENTION (R108 to R110, R119). -/
def execSlotContention (s : State) :
    Host.Outcome State Fault Refusal :=
  onDevice (fun d => endEvent (slotContention d)) s

/-- SLOT_GRANTED (R111, R120). -/
def execSlotGranted (slot : Nat) (s : State) :
    Host.Outcome State Fault Refusal :=
  onDevice (fun d => endEvent (slotGranted slot d)) s

/-- SLOT_POLLED (R117, R120). -/
def execSlotPolled (slot : Nat) (s : State) :
    Host.Outcome State Fault Refusal :=
  onDevice (fun d => endEvent (slotPolled slot d)) s

/-- CANCEL_LIMIT (R173): the tenth CANCEL block goes in slot 0. -/
def execCancelLimit (s : State) :
    Host.Outcome State Fault Refusal :=
  onDevice (takeWhen cancelLimitDue slotZero) s

/-- ASSIGN (R84). -/
def execAssign (dest : DownAddr) (identity address : Nat) (s : State) :
    Host.Outcome State Fault Refusal :=
  onDevice (downlink dest (some identity) false (fun d => if identityIs identity d then takeAssign address d else d)) s

/-- BAR (R88). -/
def execBar (dest : DownAddr) (identity : Nat) (s : State) :
    Host.Outcome State Fault Refusal :=
  onDevice (downlink dest (some identity) false takeBar) s

/-- UNBAR (R89). -/
def execUnbar (dest : DownAddr) (identity : Nat) (s : State) :
    Host.Outcome State Fault Refusal :=
  onDevice (downlink dest (some identity) false takeUnbar) s

/-- NETWORK_RESET (R90). -/
def execNetworkReset (dest : DownAddr) (s : State) :
    Host.Outcome State Fault Refusal :=
  onDevice (downlink dest none false takeNetworkReset) s

/-- OFFER (R126, R127). -/
def execOffer (dest : DownAddr) (job : Nat) (forward : Bool) (pickup window price : Nat) (s : State) :
    Host.Outcome State Fault Refusal :=
  onDevice (downlink dest none true (takeOffer dest job forward pickup window price)) s

/-- OFFER_DETAIL (R128). -/
def execOfferDetail (dest : DownAddr) (job part : Nat) (chars : List Byte) (s : State) :
    Host.Outcome State Fault Refusal :=
  onDevice (downlink dest none true (takeDetail job part chars)) s

/-- AWARD (R133, R134). -/
def execAward (dest : DownAddr) (job : Nat) (s : State) :
    Host.Outcome State Fault Refusal :=
  onDevice (downlink dest none false (takeAward job)) s

/-- WITHDRAW (R135). -/
def execWithdraw (dest : DownAddr) (job : Nat) (s : State) :
    Host.Outcome State Fault Refusal :=
  onDevice (downlink dest none false (takeWithdraw job)) s

/-- JOB_CANCEL (R136). -/
def execJobCancel (dest : DownAddr) (job : Nat) (s : State) :
    Host.Outcome State Fault Refusal :=
  onDevice (downlink dest none false (takeJobCancel job)) s

/-- ZONE_POSITION (R144). -/
def execZonePosition (dest : DownAddr) (zone position : Nat) (s : State) :
    Host.Outcome State Fault Refusal :=
  onDevice (downlink dest none false (takeZonePosition zone position)) s

/-- TEXT_PART (R148 to R152). -/
def execTextPart (dest : DownAddr) (part : TextPart) (s : State) :
    Host.Outcome State Fault Refusal :=
  onDevice (downlink dest none false (takePart part)) s

/-- EMERGENCY_ACK (R168). -/
def execEmergencyAck (dest : DownAddr) (identity : Option Nat) (raise : Nat) (s : State) :
    Host.Outcome State Fault Refusal :=
  onDevice (downlink dest identity false (takeAck raise)) s

/-- EMERGENCY_CLEAR (R170). -/
def execEmergencyClear (dest : DownAddr) (identity : Option Nat) (raise : Nat) (s : State) :
    Host.Outcome State Fault Refusal :=
  onDevice (downlink dest identity false (takeClear raise)) s

end Sys2Proof.Machine
end

