-- ==== Sys2Proof/Machine/ExecRequest.lean ====
section
/-! DEFINITION. The requests of the host. Each is the arrival of a checked frame of its kind at the input queue (R190),
with the kind code of 12, Kind codes. -/

namespace Sys2Proof.Machine

open Sys2Proof

/-- A TARIFF_ITEM frame: item, operation, fields (12, The TARIFF_ITEM body). -/
def tariffItem (item op tag : Byte) (fields : List Byte) (d : Device) : Device :=
  request 0x11 tag (item :: op :: fields) d

/-- A SET_CONFIG frame: item, value (12, Request bodies). -/
def setConfig (item tag : Byte) (value : List Byte) (d : Device) : Device := request 0x39 tag (item :: value) d

/-- SHIFT_OPEN (R1, R3). -/
def execShiftOpen (tag : Byte) (body : List Byte) (s : State) :
    Host.Outcome State Fault Refusal :=
  onDevice (request 0x01 tag body) s

/-- HIRE (R4 to R6). -/
def execHire (tag : Byte) (body : List Byte) (s : State) :
    Host.Outcome State Fault Refusal :=
  onDevice (request 0x02 tag body) s

/-- STOP (R10). -/
def execStop (tag : Byte) (body : List Byte) (s : State) :
    Host.Outcome State Fault Refusal :=
  onDevice (request 0x03 tag body) s

/-- RESUME (R11). -/
def execResume (tag : Byte) (body : List Byte) (s : State) :
    Host.Outcome State Fault Refusal :=
  onDevice (request 0x04 tag body) s

/-- CLEAR (R13, R14). -/
def execClear (tag : Byte) (body : List Byte) (s : State) :
    Host.Outcome State Fault Refusal :=
  onDevice (request 0x05 tag body) s

/-- SHIFT_CLOSE (R16). -/
def execShiftClose (tag : Byte) (body : List Byte) (s : State) :
    Host.Outcome State Fault Refusal :=
  onDevice (request 0x06 tag body) s

/-- ADD_EXTRA (R12). -/
def execAddExtra (tag : Byte) (body : List Byte) (s : State) :
    Host.Outcome State Fault Refusal :=
  onDevice (request 0x07 tag body) s

/-- METER_READ (R18). -/
def execMeterRead (tag : Byte) (body : List Byte) (s : State) :
    Host.Outcome State Fault Refusal :=
  onDevice (request 0x08 tag body) s

/-- TOTALS_READ (R19). -/
def execTotalsRead (tag : Byte) (body : List Byte) (s : State) :
    Host.Outcome State Fault Refusal :=
  onDevice (request 0x09 tag body) s

/-- TARIFF_BEGIN (R60). -/
def execTariffBegin (tag : Byte) (body : List Byte) (s : State) :
    Host.Outcome State Fault Refusal :=
  onDevice (request 0x10 tag body) s

/-- TARIFF_COMMIT (R65, R66). -/
def execTariffCommit (tag : Byte) (body : List Byte) (s : State) :
    Host.Outcome State Fault Refusal :=
  onDevice (request 0x12 tag body) s

/-- TARIFF_ABANDON (R67). -/
def execTariffAbandon (tag : Byte) (body : List Byte) (s : State) :
    Host.Outcome State Fault Refusal :=
  onDevice (request 0x13 tag body) s

/-- TARIFF_READ (R68). -/
def execTariffRead (tag : Byte) (body : List Byte) (s : State) :
    Host.Outcome State Fault Refusal :=
  onDevice (request 0x14 tag body) s

/-- CLOCK_SET (R52). -/
def execClockSet (tag : Byte) (body : List Byte) (s : State) :
    Host.Outcome State Fault Refusal :=
  onDevice (request 0x18 tag body) s

/-- POSITION (R56). -/
def execPosition (tag : Byte) (body : List Byte) (s : State) :
    Host.Outcome State Fault Refusal :=
  onDevice (request 0x19 tag body) s

/-- RESCAN (R92). -/
def execRescan (tag : Byte) (body : List Byte) (s : State) :
    Host.Outcome State Fault Refusal :=
  onDevice (request 0x1C tag body) s

/-- ACCEPT (R130). -/
def execAccept (tag : Byte) (body : List Byte) (s : State) :
    Host.Outcome State Fault Refusal :=
  onDevice (request 0x20 tag body) s

/-- DECLINE (R131). -/
def execDecline (tag : Byte) (body : List Byte) (s : State) :
    Host.Outcome State Fault Refusal :=
  onDevice (request 0x21 tag body) s

/-- NOSHOW (R137). -/
def execNoshow (tag : Byte) (body : List Byte) (s : State) :
    Host.Outcome State Fault Refusal :=
  onDevice (request 0x22 tag body) s

/-- OFFER_LIST (R142). -/
def execOfferList (tag : Byte) (body : List Byte) (s : State) :
    Host.Outcome State Fault Refusal :=
  onDevice (request 0x23 tag body) s

/-- BOOK (R143). -/
def execBook (tag : Byte) (body : List Byte) (s : State) :
    Host.Outcome State Fault Refusal :=
  onDevice (request 0x24 tag body) s

/-- UNBOOK (R146). -/
def execUnbook (tag : Byte) (body : List Byte) (s : State) :
    Host.Outcome State Fault Refusal :=
  onDevice (request 0x25 tag body) s

/-- MAIL_LIST (R154). -/
def execMailList (tag : Byte) (body : List Byte) (s : State) :
    Host.Outcome State Fault Refusal :=
  onDevice (request 0x28 tag body) s

/-- MAIL_READ (R155, R156). -/
def execMailRead (tag : Byte) (body : List Byte) (s : State) :
    Host.Outcome State Fault Refusal :=
  onDevice (request 0x29 tag body) s

/-- MAIL_REPLY (R157). -/
def execMailReply (tag : Byte) (body : List Byte) (s : State) :
    Host.Outcome State Fault Refusal :=
  onDevice (request 0x2A tag body) s

/-- MAIL_DELETE (R159). -/
def execMailDelete (tag : Byte) (body : List Byte) (s : State) :
    Host.Outcome State Fault Refusal :=
  onDevice (request 0x2B tag body) s

/-- SEND_TEXT (R160, R161). -/
def execSendText (tag : Byte) (body : List Byte) (s : State) :
    Host.Outcome State Fault Refusal :=
  onDevice (request 0x2C tag body) s

/-- EMERGENCY_RAISE (R163 to R165). -/
def execEmergencyRaise (tag : Byte) (body : List Byte) (s : State) :
    Host.Outcome State Fault Refusal :=
  onDevice (request 0x30 tag body) s

/-- EMERGENCY_CANCEL (R172). -/
def execEmergencyCancel (tag : Byte) (body : List Byte) (s : State) :
    Host.Outcome State Fault Refusal :=
  onDevice (request 0x31 tag body) s

/-- SIGN_LOAD (R182). -/
def execSignLoad (tag : Byte) (body : List Byte) (s : State) :
    Host.Outcome State Fault Refusal :=
  onDevice (request 0x34 tag body) s

/-- SIGN_BLANK (R183). -/
def execSignBlank (tag : Byte) (body : List Byte) (s : State) :
    Host.Outcome State Fault Refusal :=
  onDevice (request 0x35 tag body) s

/-- SIGN_READ (R184). -/
def execSignRead (tag : Byte) (body : List Byte) (s : State) :
    Host.Outcome State Fault Refusal :=
  onDevice (request 0x36 tag body) s

/-- STATUS (R195). -/
def execStatus (tag : Byte) (body : List Byte) (s : State) :
    Host.Outcome State Fault Refusal :=
  onDevice (request 0x38 tag body) s

/-- GET_CONFIG (R197). -/
def execGetConfig (tag : Byte) (body : List Byte) (s : State) :
    Host.Outcome State Fault Refusal :=
  onDevice (request 0x3A tag body) s

/-- IDENTIFY (R198). -/
def execIdentify (tag : Byte) (body : List Byte) (s : State) :
    Host.Outcome State Fault Refusal :=
  onDevice (request 0x3B tag body) s

/-- RESET (R199). -/
def execReset (tag : Byte) (body : List Byte) (s : State) :
    Host.Outcome State Fault Refusal :=
  onDevice (request 0x3C tag body) s

/-- TARIFF_ITEM, SET calibration constant (R62, R63). -/
def execTariffItemSetCalibration (tag : Byte) (fields : List Byte) (s : State) :
    Host.Outcome State Fault Refusal :=
  onDevice (tariffItem 1 1 tag fields) s

/-- TARIFF_ITEM, SET tariff (R62, R63). -/
def execTariffItemSetTariff (tag : Byte) (fields : List Byte) (s : State) :
    Host.Outcome State Fault Refusal :=
  onDevice (tariffItem 2 1 tag fields) s

/-- TARIFF_ITEM, REMOVE tariff (R62, R63). -/
def execTariffItemRemoveTariff (tag : Byte) (fields : List Byte) (s : State) :
    Host.Outcome State Fault Refusal :=
  onDevice (tariffItem 2 2 tag fields) s

/-- TARIFF_ITEM, SET default tariff (R62, R63). -/
def execTariffItemSetDefault (tag : Byte) (fields : List Byte) (s : State) :
    Host.Outcome State Fault Refusal :=
  onDevice (tariffItem 3 1 tag fields) s

/-- TARIFF_ITEM, BAND_ADD (R62, R64). -/
def execBandAdd (tag : Byte) (fields : List Byte) (s : State) :
    Host.Outcome State Fault Refusal :=
  onDevice (tariffItem 4 3 tag fields) s

/-- TARIFF_ITEM, BAND_REMOVE (R62, R64). -/
def execBandRemove (tag : Byte) (fields : List Byte) (s : State) :
    Host.Outcome State Fault Refusal :=
  onDevice (tariffItem 4 4 tag fields) s

/-- TARIFF_ITEM, SCHEDULE_CLEAR (R62, R64). -/
def execScheduleClear (tag : Byte) (fields : List Byte) (s : State) :
    Host.Outcome State Fault Refusal :=
  onDevice (tariffItem 4 5 tag fields) s

/-- TARIFF_ITEM, SET supplement (R62, R63). -/
def execTariffItemSetSupplement (tag : Byte) (fields : List Byte) (s : State) :
    Host.Outcome State Fault Refusal :=
  onDevice (tariffItem 5 1 tag fields) s

/-- TARIFF_ITEM, REMOVE supplement (R62, R63). -/
def execTariffItemRemoveSupplement (tag : Byte) (fields : List Byte) (s : State) :
    Host.Outcome State Fault Refusal :=
  onDevice (tariffItem 5 2 tag fields) s

/-- TARIFF_ITEM, SET display decimals (R62, R63). -/
def execTariffItemSetDecimals (tag : Byte) (fields : List Byte) (s : State) :
    Host.Outcome State Fault Refusal :=
  onDevice (tariffItem 6 1 tag fields) s

/-- TARIFF_ITEM, SET installation identity (R62, R63). -/
def execTariffItemSetIdentity (tag : Byte) (fields : List Byte) (s : State) :
    Host.Outcome State Fault Refusal :=
  onDevice (tariffItem 7 1 tag fields) s

/-- SET_CONFIG, arbitration mode (R106, R196). -/
def execSetConfigArbitrationMode (tag : Byte) (value : List Byte) (s : State) :
    Host.Outcome State Fault Refusal :=
  onDevice (setConfig 1 tag value) s

/-- SET_CONFIG, covert (R175, R196). -/
def execSetConfigCovert (tag : Byte) (value : List Byte) (s : State) :
    Host.Outcome State Fault Refusal :=
  onDevice (setConfig 2 tag value) s

/-- SET_CONFIG, track interval (R169, R196). -/
def execSetConfigTrackInterval (tag : Byte) (value : List Byte) (s : State) :
    Host.Outcome State Fault Refusal :=
  onDevice (setConfig 3 tag value) s

/-- SET_CONFIG, network acceptance list (R91, R196). -/
def execSetConfigAcceptanceList (tag : Byte) (value : List Byte) (s : State) :
    Host.Outcome State Fault Refusal :=
  onDevice (setConfig 4 tag value) s

/-- SET_CONFIG, sensor mode (R47, R196). -/
def execSetConfigSensorMode (tag : Byte) (value : List Byte) (s : State) :
    Host.Outcome State Fault Refusal :=
  onDevice (setConfig 5 tag value) s

/-- SET_CONFIG, occupancy check (R23, R196). -/
def execSetConfigOccupancyCheck (tag : Byte) (value : List Byte) (s : State) :
    Host.Outcome State Fault Refusal :=
  onDevice (setConfig 6 tag value) s

/-- SET_CONFIG, lamp polarity (R180, R196). -/
def execSetConfigLampPolarity (tag : Byte) (value : List Byte) (s : State) :
    Host.Outcome State Fault Refusal :=
  onDevice (setConfig 7 tag value) s

/-- TAG_ZERO_REQUEST (R191). -/
def execTagZeroRequest (kind : Byte) (body : List Byte) (s : State) :
    Host.Outcome State Fault Refusal :=
  onDevice (request kind 0 body) s

/-- UNKNOWN_KIND_REQUEST (R191). -/
def execUnknownKindRequest (kind tag : Byte) (body : List Byte) (s : State) :
    Host.Outcome State Fault Refusal :=
  onDevice (request kind tag body) s

end Sys2Proof.Machine
end

