-- ==== Sys2Proof/Machine/Dispatch.lean ====
section
/-! DEFINITION. The dispatch of the commands: one arm per constructor of Instr, each one call of its meaning. -/

namespace Sys2Proof.Machine

open Sys2Proof

def exec (i : Instr) (s : State) : Host.Outcome State Fault Refusal :=
  match i with
  | .powerOn backup backedKept => Sys2Proof.Machine.execPowerOn backup backedKept s
  | .supplyWarning => Sys2Proof.Machine.execSupplyWarning s
  | .supplyWarningRelease elapsed => Sys2Proof.Machine.execSupplyWarningRelease elapsed s
  | .tick panic occupied switchOpen => Sys2Proof.Machine.execTick panic occupied switchOpen s
  | .resumeWindowExpiry => Sys2Proof.Machine.execResumeWindowExpiry s
  | .unmeteredEvent => Sys2Proof.Machine.execUnmeteredEvent s
  | .wheelEdge a b => Sys2Proof.Machine.execWheelEdge a b s
  | .sensorFault => Sys2Proof.Machine.execSensorFault s
  | .minuteChange => Sys2Proof.Machine.execMinuteChange s
  | .clockDayRangeEnd => Sys2Proof.Machine.execClockDayRangeEnd s
  | .panicRaise => Sys2Proof.Machine.execPanicRaise s
  | .panicRearm => Sys2Proof.Machine.execPanicRearm s
  | .occupancyLevelChange => Sys2Proof.Machine.execOccupancyLevelChange s
  | .calibrationSwitchChange => Sys2Proof.Machine.execCalibrationSwitchChange s
  | .shiftOpen tag body => Sys2Proof.Machine.execShiftOpen tag body s
  | .hire tag body => Sys2Proof.Machine.execHire tag body s
  | .stop tag body => Sys2Proof.Machine.execStop tag body s
  | .resume tag body => Sys2Proof.Machine.execResume tag body s
  | .clear tag body => Sys2Proof.Machine.execClear tag body s
  | .shiftClose tag body => Sys2Proof.Machine.execShiftClose tag body s
  | .addExtra tag body => Sys2Proof.Machine.execAddExtra tag body s
  | .meterRead tag body => Sys2Proof.Machine.execMeterRead tag body s
  | .totalsRead tag body => Sys2Proof.Machine.execTotalsRead tag body s
  | .tariffBegin tag body => Sys2Proof.Machine.execTariffBegin tag body s
  | .tariffItemSetCalibration tag fields => Sys2Proof.Machine.execTariffItemSetCalibration tag fields s
  | .tariffItemSetTariff tag fields => Sys2Proof.Machine.execTariffItemSetTariff tag fields s
  | .tariffItemRemoveTariff tag fields => Sys2Proof.Machine.execTariffItemRemoveTariff tag fields s
  | .tariffItemSetDefault tag fields => Sys2Proof.Machine.execTariffItemSetDefault tag fields s
  | .bandAdd tag fields => Sys2Proof.Machine.execBandAdd tag fields s
  | .bandRemove tag fields => Sys2Proof.Machine.execBandRemove tag fields s
  | .scheduleClear tag fields => Sys2Proof.Machine.execScheduleClear tag fields s
  | .tariffItemSetSupplement tag fields => Sys2Proof.Machine.execTariffItemSetSupplement tag fields s
  | .tariffItemRemoveSupplement tag fields => Sys2Proof.Machine.execTariffItemRemoveSupplement tag fields s
  | .tariffItemSetDecimals tag fields => Sys2Proof.Machine.execTariffItemSetDecimals tag fields s
  | .tariffItemSetIdentity tag fields => Sys2Proof.Machine.execTariffItemSetIdentity tag fields s
  | .tariffCommit tag body => Sys2Proof.Machine.execTariffCommit tag body s
  | .tariffAbandon tag body => Sys2Proof.Machine.execTariffAbandon tag body s
  | .tariffRead tag body => Sys2Proof.Machine.execTariffRead tag body s
  | .clockSet tag body => Sys2Proof.Machine.execClockSet tag body s
  | .position tag body => Sys2Proof.Machine.execPosition tag body s
  | .rescan tag body => Sys2Proof.Machine.execRescan tag body s
  | .accept tag body => Sys2Proof.Machine.execAccept tag body s
  | .decline tag body => Sys2Proof.Machine.execDecline tag body s
  | .noshow tag body => Sys2Proof.Machine.execNoshow tag body s
  | .offerList tag body => Sys2Proof.Machine.execOfferList tag body s
  | .book tag body => Sys2Proof.Machine.execBook tag body s
  | .unbook tag body => Sys2Proof.Machine.execUnbook tag body s
  | .mailList tag body => Sys2Proof.Machine.execMailList tag body s
  | .mailRead tag body => Sys2Proof.Machine.execMailRead tag body s
  | .mailReply tag body => Sys2Proof.Machine.execMailReply tag body s
  | .mailDelete tag body => Sys2Proof.Machine.execMailDelete tag body s
  | .sendText tag body => Sys2Proof.Machine.execSendText tag body s
  | .emergencyRaise tag body => Sys2Proof.Machine.execEmergencyRaise tag body s
  | .emergencyCancel tag body => Sys2Proof.Machine.execEmergencyCancel tag body s
  | .signLoad tag body => Sys2Proof.Machine.execSignLoad tag body s
  | .signBlank tag body => Sys2Proof.Machine.execSignBlank tag body s
  | .signRead tag body => Sys2Proof.Machine.execSignRead tag body s
  | .status tag body => Sys2Proof.Machine.execStatus tag body s
  | .setConfigArbitrationMode tag value => Sys2Proof.Machine.execSetConfigArbitrationMode tag value s
  | .setConfigCovert tag value => Sys2Proof.Machine.execSetConfigCovert tag value s
  | .setConfigTrackInterval tag value => Sys2Proof.Machine.execSetConfigTrackInterval tag value s
  | .setConfigAcceptanceList tag value => Sys2Proof.Machine.execSetConfigAcceptanceList tag value s
  | .setConfigSensorMode tag value => Sys2Proof.Machine.execSetConfigSensorMode tag value s
  | .setConfigOccupancyCheck tag value => Sys2Proof.Machine.execSetConfigOccupancyCheck tag value s
  | .setConfigLampPolarity tag value => Sys2Proof.Machine.execSetConfigLampPolarity tag value s
  | .getConfig tag body => Sys2Proof.Machine.execGetConfig tag body s
  | .identify tag body => Sys2Proof.Machine.execIdentify tag body s
  | .reset tag body => Sys2Proof.Machine.execReset tag body s
  | .tagZeroRequest kind body => Sys2Proof.Machine.execTagZeroRequest kind body s
  | .unknownKindRequest kind tag body => Sys2Proof.Machine.execUnknownKindRequest kind tag body s
  | .frameReceived bytes => Sys2Proof.Machine.execFrameReceived bytes s
  | .frameLengthOversize length => Sys2Proof.Machine.execFrameLengthOversize length s
  | .frameGapTimeout => Sys2Proof.Machine.execFrameGapTimeout s
  | .transmitComplete => Sys2Proof.Machine.execTransmitComplete s
  | .cycleStart => Sys2Proof.Machine.execCycleStart s
  | .headerPart block => Sys2Proof.Machine.execHeaderPart block s
  | .logonBackoffEnd => Sys2Proof.Machine.execLogonBackoffEnd s
  | .backoffEnd order => Sys2Proof.Machine.execBackoffEnd order s
  | .reassemblyTimeout buffer => Sys2Proof.Machine.execReassemblyTimeout buffer s
  | .uplinkPhaseStart => Sys2Proof.Machine.execUplinkPhaseStart s
  | .slotEmergency => Sys2Proof.Machine.execSlotEmergency s
  | .slotContention => Sys2Proof.Machine.execSlotContention s
  | .slotGranted slot => Sys2Proof.Machine.execSlotGranted slot s
  | .slotPolled slot => Sys2Proof.Machine.execSlotPolled slot s
  | .accountingHoldEnd => Sys2Proof.Machine.execAccountingHoldEnd s
  | .headerLossTimeout => Sys2Proof.Machine.execHeaderLossTimeout s
  | .lostPeriodExpiry => Sys2Proof.Machine.execLostPeriodExpiry s
  | .holdTimerExpiry => Sys2Proof.Machine.execHoldTimerExpiry s
  | .assign dest identity address => Sys2Proof.Machine.execAssign dest identity address s
  | .bar dest identity => Sys2Proof.Machine.execBar dest identity s
  | .unbar dest identity => Sys2Proof.Machine.execUnbar dest identity s
  | .networkReset dest => Sys2Proof.Machine.execNetworkReset dest s
  | .downlinkBlockDiscarded block => Sys2Proof.Machine.execDownlinkBlockDiscarded block s
  | .offer dest job forward pickup window price => Sys2Proof.Machine.execOffer dest job forward pickup window price s
  | .offerDetail dest job part chars => Sys2Proof.Machine.execOfferDetail dest job part chars s
  | .award dest job => Sys2Proof.Machine.execAward dest job s
  | .withdraw dest job => Sys2Proof.Machine.execWithdraw dest job s
  | .jobCancel dest job => Sys2Proof.Machine.execJobCancel dest job s
  | .zonePosition dest zone position => Sys2Proof.Machine.execZonePosition dest zone position s
  | .textPart dest part => Sys2Proof.Machine.execTextPart dest part s
  | .emergencyAck dest identity raise => Sys2Proof.Machine.execEmergencyAck dest identity raise s
  | .emergencyClear dest identity raise => Sys2Proof.Machine.execEmergencyClear dest identity raise s
  | .cancelLimit => Sys2Proof.Machine.execCancelLimit s
  | .cancelWindowExpiry => Sys2Proof.Machine.execCancelWindowExpiry s
  | .trackTimerExpiry => Sys2Proof.Machine.execTrackTimerExpiry s
  | .offerWindowExpiry job => Sys2Proof.Machine.execOfferWindowExpiry job s
  | .awardDeadlineExpiry job => Sys2Proof.Machine.execAwardDeadlineExpiry job s
  | .answerTimerExpiry => Sys2Proof.Machine.execAnswerTimerExpiry s
  | .displayRecordSent => Sys2Proof.Machine.execDisplayRecordSent s
  | .frameStart => Sys2Proof.Machine.execFrameStart s
  | .flashClock => Sys2Proof.Machine.execFlashClock s

end Sys2Proof.Machine
end

