-- ==== Sys2Proof/Safety.lean ====
section
/-! DEFINITION. What a lawful state of the part is: the eleven laws that the manual's rules own, with the ranges of the
records they rest on, one law per block; and the words the obligations use for what a request or a slot leaves behind. -/

namespace Sys2Proof.Machine

open Sys2Proof

/-! ### Supply and backed storage (R24, R176, R201) -/

/-- Backed storage holds what the warning saved, and the meter, the residues and the emergency record stand as they were
saved, from the warning until power-on; at any other time it holds nothing. From the warning on no frame, notice,
load, edge or display record waits. -/
def SupplyLaw (d : Device) : Prop :=
  d.backed = (if d.link.accepting then none else some (savedState d))
    ∧ d.pins.supplyWarning = !d.link.accepting
    ∧ (d.link.accepting = false →
        d.tariff.load = none ∧ d.link.rx = .hunting ∧ d.link.input = [] ∧ d.link.notices = []
          ∧ d.sign.sending = none ∧ d.sign.waiting = none ∧ d.vehicle.forward = 0 ∧ d.vehicle.reverse = 0
          ∧ d.ahead = .clear)

/-! ### Fare Meter (01, Meter states; R2, R3, R10, R11) -/

/-- A shift is open in this state (01, Meter states). -/
def MeterState.shiftOpen : MeterState → Bool
  | .uncalibrated => false
  | .offDuty => false
  | .forHire => true
  | .hired => true
  | .stopped => true

/-- A trip context is held in this state (01, Meter states). -/
def MeterState.tripHeld : MeterState → Bool
  | .uncalibrated => false
  | .offDuty => false
  | .forHire => false
  | .hired => true
  | .stopped => true

/-- The meter state agrees with the tariff set, the shift and the trip context; a load and an open resume window stand
only in the states that allow them. -/
def MeterLaw (d : Device) : Prop :=
  (d.meter.state = .uncalibrated ↔ d.tariff.inForce = none)
    ∧ d.meter.shift.isSome = d.meter.state.shiftOpen
    ∧ d.meter.trip.isSome = d.meter.state.tripHeld
    ∧ (d.tariff.load.isSome → d.meter.state = .uncalibrated ∨ d.meter.state = .offDuty)
    ∧ (d.meter.window ≠ 0 → d.meter.state = .stopped)
    ∧ d.meter.window ≤ Config.resumeWindow
    ∧ (d.meter.replaced ≠ none → d.meter.state = .hired)
    ∧ d.meter.lastShift ≤ Config.count16Top
    ∧ ∀ s ∈ d.meter.shift, s.number = d.meter.lastShift

/-! ### Vehicle Inputs (03) -/

/-- The clock's fields lie in their ranges, and an UNSET clock has the holiday flag clear (R50, R51). -/
def ClockLaw (c : Calendar) : Prop :=
  (∀ t ∈ c.time, t.day ≤ Config.count16Top ∧ t.second < Config.daySeconds ∧ t.tick < 10)
    ∧ (c.time = none → c.holiday = false)

/-- The counts of the inputs lie in their ranges; a held sensor fault counts nothing; the occupancy count runs in
FOR_HIRE alone (R23, R41, R44, R45, R48, R54, R55, R57). -/
def VehicleLaw (d : Device) : Prop :=
  ClockLaw d.vehicle.calendar
    ∧ d.vehicle.forward ≤ Config.count16Top ∧ d.vehicle.reverse ≤ Config.count16Top
    ∧ d.vehicle.debt ≤ Config.debtTop
    ∧ d.vehicle.phaseErrors.length = 10 ∧ d.vehicle.phaseErrors.sum < Config.phaseErrorLimit
    ∧ (d.vehicle.fault = true → d.vehicle.forward = 0 ∧ d.vehicle.reverse = 0 ∧ d.vehicle.phaseErrors = emptyWindow)
    ∧ d.vehicle.panic.count < 5 ∧ d.vehicle.occupancy.count < 10
    ∧ d.vehicle.unmetered.distance ≤ Config.unmeteredTop
    ∧ (d.vehicle.unmetered.stopped = true ↔ d.vehicle.unmetered.distance = Config.unmeteredTop)
    ∧ (d.vehicle.unmetered.stopped = false → d.vehicle.unmetered.beyond = 0)
    ∧ (d.meter.state ≠ .forHire → d.vehicle.unmetered = .reset)
    ∧ (∀ f ∈ d.vehicle.fix, f.age ≤ Config.ageTop ∧ -9000000 ≤ f.latitude ∧ f.latitude ≤ 9000000
        ∧ -18000000 ≤ f.longitude ∧ f.longitude ≤ 18000000)

/-- The stored items lie in their ranges (R196). -/
def ItemsLaw (x : Items) : Prop :=
  5 ≤ x.trackInterval ∧ x.trackInterval ≤ 60
    ∧ 1 ≤ x.acceptance.length ∧ x.acceptance.length ≤ 4 ∧ x.acceptance.Nodup ∧ ∀ n ∈ x.acceptance, n < 65536

/-! ### Tariff Store (04) -/

/-- A band has a day, a start minute of a day and a tariff number 1..4 (R64). -/
def Band.inRange (b : Band) : Prop := b.days ≠ 0 ∧ b.start ≤ 1439 ∧ 1 ≤ b.tariff ∧ b.tariff ≤ 4

/-- The schedule holds at most 12 bands in their order, no two of them sharing a start minute and a day (R64). -/
def ScheduleLaw (bs : List Band) : Prop :=
  bs.length ≤ Config.scheduleSize ∧ (∀ b ∈ bs, b.inRange)
    ∧ bs.Pairwise (fun a b => a.before b = true) ∧ bs.Pairwise (fun a b => clashes a b = false)

/-- The items of a set that are present lie in their ranges (R63, R64). -/
def StagingLaw (s : Staging) : Prop :=
  (∀ k ∈ s.k, 1000 ≤ k ∧ k ≤ 60000)
    ∧ s.tariffs.length = 4 ∧ (∀ t ∈ s.tariffs, ∀ x ∈ t, tariffInRange x = true)
    ∧ (∀ n ∈ s.default, 1 ≤ n ∧ n ≤ 4)
    ∧ ScheduleLaw s.schedule
    ∧ s.supplements.length = 8 ∧ (∀ p ∈ s.supplements, ∀ x ∈ p, 1 ≤ x.amount ∧ x.amount ≤ 9999 ∧ 1 ≤ x.label)
    ∧ s.decimals ≤ 3
    ∧ ∀ i ∈ s.identity, 1 ≤ i.cab ∧ 1 ≤ i.fleet

/-- A set in force has passed every check, item by item and as a whole (R58, R65). -/
def SetLaw (set : TariffSet) : Prop := StagingLaw set.toStaging ∧ checkSet set.toStaging = .ok set

/-- The set in force is a whole set with its derived sizes, the first one has revision 1, the scheduled tariff is one of
its tariffs, and a load stands only while the switch is OPEN (R27, R58, R60, R61, R69). -/
def TariffLaw (t : TariffStore) : Prop :=
  (∀ set ∈ t.inForce, SetLaw set ∧ ∀ n ∈ t.scheduled, (tariffAt set.tariffs n).isSome)
    ∧ t.derived = derivedAgain t.inForce
    ∧ (t.inForce = none ↔ t.revision = 0) ∧ t.revision ≤ Config.count16Top
    ∧ (t.inForce = none → t.scheduled = none)
    ∧ (∀ s ∈ t.load, StagingLaw s ∧ t.switch.isOpen = true ∧ t.revision < Config.count16Top)
    ∧ t.switch.count < 5

/-! ### The trip (02) -/

/-- The accumulator of a trip that accrues stands below the size its phase is charged by (R31, R33). -/
def AccumulatorLaw (set : TariffSet) (t : Trip) : Prop :=
  ∀ x ∈ tariffAt set.tariffs t.tariff,
    t.accumulator < (match t.phase with
      | .initial => (derive set.k x).theta0
      | .normal => (derive set.k x).theta)

/-- The trip in progress: its tariffs are of the set in force, its fare, extras and flags agree, and a pending tariff is
held only by a HIRED trip that accrues (R5, R6, R9, R10, R12, R33 to R35). -/
def TripLaw (set : TariffSet) (m : MeterState) (t : Trip) : Prop :=
  t.fare ≤ Config.fareTop ∧ t.extras ≤ Config.extrasTop ∧ t.hiredEdges ≤ Config.count32Top
    ∧ (tariffAt set.tariffs t.tariff).isSome
    ∧ (∀ n ∈ t.pendingTariff, (tariffAt set.tariffs n).isSome ∧ n ≠ t.tariff ∧ m = .hired
        ∧ t.fixedPrice = none ∧ t.flags.fareCapped = false)
    ∧ (∀ p ∈ t.fixedPrice, t.fare = p)
    ∧ t.flags.fixedPrice = t.fixedPrice.isSome
    ∧ (t.flags.fareCapped = true → t.fare = Config.fareTop)
    ∧ (t.flags.extrasCapped = true → t.extras = Config.extrasTop)
    ∧ (t.fixedPrice = none → t.flags.fareCapped = false → AccumulatorLaw set t)

/-- The trip in progress is lawful under the set in force. -/
def FareLaw (d : Device) : Prop := ∀ set ∈ d.tariff.inForce, ∀ t ∈ d.meter.trip, TripLaw set d.meter.state t

/-! ### Distance and totals (R37 to R39, R72) -/

/-- One scope's distances: the hired metres stay below the total metres, and while the total has not saturated the two
exact distances stay in that order (R37, R39). -/
def ScopeLaw (k total totalResidue hired hiredResidue : Nat) : Prop :=
  totalResidue < k ∧ hiredResidue < k ∧ hired ≤ total ∧ total ≤ Config.count32Top
    ∧ (total < Config.count32Top → hired * k + hiredResidue ≤ total * k + totalResidue)

/-- The third law, over the lifetime and over the open shift; with no set in force both lifetime residues are 0. -/
def DistanceLaw (d : Device) : Prop :=
  d.tariff.lifetime.hiredMetres ≤ d.tariff.lifetime.totalMetres
    ∧ d.tariff.lifetime.totalMetres ≤ Config.count32Top
    ∧ (d.tariff.inForce = none → d.tariff.totalResidue = 0 ∧ d.tariff.hiredResidue = 0)
    ∧ ∀ set ∈ d.tariff.inForce,
        ScopeLaw set.k d.tariff.lifetime.totalMetres d.tariff.totalResidue d.tariff.lifetime.hiredMetres
          d.tariff.hiredResidue
        ∧ ∀ s ∈ d.meter.shift, ScopeLaw set.k s.totalMetres s.totalResidue s.hiredMetres s.hiredResidue

/-- Each lifetime total of `b` is at least that of `a`. -/
def Lifetime.atLeast (a b : Lifetime) : Prop :=
  a.totalMetres ≤ b.totalMetres ∧ a.hiredMetres ≤ b.hiredMetres ∧ a.trips ≤ b.trips ∧ a.fareSum ≤ b.fareSum
    ∧ a.extrasSum ≤ b.extrasSum ∧ a.switchOpenings ≤ b.switchOpenings
    ∧ a.powerInterruptions ≤ b.powerInterruptions ∧ a.recordsLost ≤ b.recordsLost

/-- The lifetime totals lie in their ranges (R72), and the counts of an open shift in theirs (R15). -/
def TotalsLaw (d : Device) : Prop :=
  Lifetime.atLeast d.tariff.lifetime
      ⟨Config.count32Top, Config.count32Top, Config.count32Top, Config.sum40Top, Config.sum40Top, Config.count16Top,
       Config.count16Top, Config.count16Top⟩
    ∧ ∀ s ∈ d.meter.shift,
        s.trips ≤ Config.count16Top ∧ s.fareTotal ≤ Config.count32Top ∧ s.extrasTotal ≤ Config.count32Top
          ∧ s.unmetered ≤ Config.count8Top ∧ s.emergencies ≤ Config.count8Top

/-! ### Offer Table (07) -/

/-- What an entry holds in its state (R123, R127, R129, R132). -/
def OfferShape (o : Offer) : Prop :=
  jobInRange o.job = true ∧ 5 ≤ o.window ∧ o.window ≤ 60 ∧ o.count ≤ 10 * o.window
    ∧ (∀ p ∈ o.price, 1 ≤ p ∧ p ≤ Config.fareTop)
    ∧ (match o.state with
       | .offered => 1 ≤ o.count
       | .bidding delivered deadline =>
         deadline.isSome = delivered ∧ ∀ n ∈ deadline, 1 ≤ n ∧ n ≤ Config.awardDeadline
       | .active _ => True
       | .forward => True)

/-- The sixth law (R125). -/
def RolesLaw (os : List Offer) : Prop :=
  os.length ≤ Config.offerSize ∧ (os.map Offer.job).Nodup
    ∧ (os.filter Offer.isActive).length ≤ 1 ∧ (os.filter Offer.isForward).length ≤ 1
    ∧ (os.any Offer.isForward = true → os.any Offer.isActive = true)

/-- The Offer Table: the sixth law, the shape of its entries, the IN_TRIP entry is the trip's linked job, and while a
call is in progress no entry is OFFERED or has an undelivered bid (R123 to R126, R138, R141). -/
def OfferLaw (d : Device) : Prop :=
  RolesLaw d.offers.entries ∧ d.offers.history.length ≤ Config.offerSize
    ∧ (∀ o ∈ d.offers.entries, OfferShape o
        ∧ (o.state = .active true → ∃ t ∈ d.meter.trip, t.job = some o.job)
        ∧ (d.emergency.state ≠ .quiet → o.isOffered = false ∧ o.bidUndelivered = false))

/-- The job of a BID. -/
def Msg.bidJob : Msg → Option Nat
  | .bid j => some j
  | _ => none

/-- The message that a CANNED_REPLY answers. -/
def Msg.answers : Msg → Option Nat
  | .cannedReply n _ => some n
  | _ => none

/-- Every BID in the queue is the bid of an entry whose bid is undelivered, and the other way round (R130 to R133). -/
def BidLaw (d : Device) : Prop :=
  (∀ e ∈ d.uplink.entries, ∀ j ∈ e.msg.bidJob, ∃ o ∈ d.offers.entries, o.job = j ∧ o.bidUndelivered = true)
    ∧ ∀ o ∈ d.offers.entries, o.bidUndelivered = true → ∃ e ∈ d.uplink.entries, e.msg = .bid o.job

/-- A booking is held only by a registered or lost cab for hire with no call in progress; the fifth law is a part of it
(R143, R146). The answer timer runs in BOOK_PENDING alone (R145). -/
def BookingLaw (d : Device) : Prop :=
  (d.offers.booking ≠ .none → d.meter.state = .forHire ∧ d.emergency.state = .quiet ∧ d.channel.address.isSome)
    ∧ (∀ n ∈ d.offers.answer, 1 ≤ n ∧ n ≤ Config.bookingAnswer
        ∧ d.offers.booking ≠ .none ∧ isBooked d.offers.booking = false)

/-! ### Uplink Queue and Trip Store (06; R20 to R22) -/

/-- The entry is HELD (R115). -/
def Entry.isHeld (e : Entry) : Bool :=
  match e.state with
  | .held _ => true
  | _ => false

/-- What an entry holds in its state (R98, R104, R113 to R115). -/
def EntryShape (e : Entry) : Prop :=
  (∀ q ∈ e.seq, q < 16) ∧ e.attempts ≤ Config.messageAttempts
    ∧ (e.attempts = Config.messageAttempts → e.isHeld = true)
    ∧ (match e.state with
       | .held n => e.msg.record.isSome = true ∧ 1 ≤ n ∧ n ≤ Config.accountingHold
       | .backoff n => n < 32
       | .inFlight => e.seq.isSome = true
       | _ => True)
    ∧ (e.msg.isText = true → 1 ≤ e.msg.blocks ∧ e.msg.blocks ≤ 10)

/-- Two entries do not carry one sequence (R104). -/
def seqsDiffer (a b : Entry) : Prop := a.seq.isSome → a.seq ≠ b.seq

/-- The ninth law, with what it rests on: the entries stand in the order they were made under names of their own, the
in-flight message is an entry of the queue and the only one IN_FLIGHT, held only in REGISTERED, and an entry owed waits
for a full queue (R98, R99, R102, R104, R121). -/
def QueueLaw (d : Device) : Prop :=
  d.uplink.entries.length ≤ Config.queueSize
    ∧ (d.uplink.entries.filter fun e => e.msg == .status).length ≤ 1
    ∧ (d.uplink.entries.filter fun e => e.msg.record.isSome).length ≤ 1
    ∧ (d.uplink.entries.filter fun e => e.msg.isText).length ≤ 2
    ∧ (d.uplink.entries.filterMap fun e => e.msg.job).Nodup
    ∧ d.uplink.entries.Pairwise (fun a b => a.serial < b.serial) ∧ d.uplink.entries.Pairwise seqsDiffer
    ∧ (∀ e ∈ d.uplink.entries, EntryShape e ∧ e.serial < d.uplink.nextSerial
        ∧ (e.state = .inFlight ↔ d.uplink.inFlight.map InFlight.serial = some e.serial))
    ∧ (∀ f ∈ d.uplink.inFlight, d.channel.reg = .registered ∧ ∃ e ∈ d.uplink.entries, e.serial = f.serial)
    ∧ (d.uplink.statusOwed = true → hasStatus d = false)
    ∧ (d.uplink.accountingOwed = true → d.uplink.entries.all (fun e => e.msg.record.isNone) = true)
    ∧ (d.uplink.statusOwed = true ∨ d.uplink.accountingOwed = true → d.uplink.entries.length = Config.queueSize)
    ∧ 1 ≤ d.uplink.pointer ∧ d.uplink.pointer ≤ 4 ∧ d.uplink.nextSeq < 16 ∧ d.uplink.nextOrder < 65536

/-- The Trip Store holds at most 32 records in the order of their numbers; the accounting entry refers to one of them;
a record IN_FLIGHT or HELD is the one it refers to; and a WAITING record has an accounting entry made or owed
(R20 to R22, R101). -/
def StoreLaw (d : Device) : Prop :=
  d.store.records.length ≤ Config.storeSize
    ∧ d.store.records.Pairwise (fun a b => a.number < b.number)
    ∧ (∀ r ∈ d.store.records, 1 ≤ r.number ∧ r.number < d.store.next
        ∧ (r.mark ≠ .waiting → ∃ e ∈ d.uplink.entries, e.msg = recordMsg r)
        ∧ (r.mark = .held → ∃ e ∈ d.uplink.entries, e.msg = recordMsg r ∧ e.isHeld = true))
    ∧ 1 ≤ d.store.next ∧ d.store.next ≤ Config.count32Top + 1
    ∧ (∀ e ∈ d.uplink.entries, e.msg.record.isSome → ∃ r ∈ d.store.records, e.msg = recordMsg r)
    ∧ ((oldestWaiting d).isSome → d.uplink.accountingOwed = true ∨ d.uplink.entries.any (fun e => e.msg.record.isSome) = true)

/-! ### Mailbox (08) -/

/-- A PARTIAL buffer lacks a part, and its parts have distinct indices in range (R149, R151). -/
def PartialShape (p : Partial) : Prop :=
  2 ≤ p.count ∧ p.parts ≠ [] ∧ (p.parts.map HeldPart.index).Nodup ∧ (∀ h ∈ p.parts, h.index < p.count)
    ∧ p.complete = false ∧ p.headers ≤ Config.reassemblyLimit

/-- What a message's state, receipt and reply say of each other and of the queue (R152, R155 to R158). -/
def MailShape (d : Device) (m : Mail) : Prop :=
  m.text ≠ [] ∧ m.codes.Nodup ∧ (0 : Byte) ∉ m.codes
    ∧ (m.state = .replied ↔ m.reply.isSome)
    ∧ (m.receipt = .pending ∨ m.receipt = .queued → m.cls = .priority ∧ m.state ≠ .unread)
    ∧ (m.cls = .priority → m.state ≠ .unread → m.receipt ≠ .none)
    ∧ (m.receipt = .queued → ∃ e ∈ d.uplink.entries, e.msg = .readReceipt m.number)
    ∧ (m.receipt = .pending → d.uplink.entries.length = Config.queueSize)
    ∧ (∀ r ∈ m.reply, r.2 = .queued → ∃ e ∈ d.uplink.entries, e.msg.answers = some m.number)

/-- The eleventh law, with the shape of the buffers and of the messages (R149 to R152). -/
def MailLaw (d : Device) : Prop :=
  d.mail.mail.length ≤ Config.mailboxSize ∧ (d.mail.mail.map Mail.number).Nodup
    ∧ (∀ a ∈ d.mail.first, ∀ b ∈ d.mail.second, a.number ≠ b.number)
    ∧ (∀ p ∈ d.mail.first, PartialShape p) ∧ (∀ p ∈ d.mail.second, PartialShape p)
    ∧ (∀ m ∈ d.mail.mail, MailShape d m) ∧ d.mail.outbound < 256

/-! ### Emergency Controller (09) -/

/-- The lane holds what the state calls for: a TRACK may stand in ACKNOWLEDGED alone (R118, R174). -/
def LaneLaw (d : Device) : Prop :=
  match d.emergency.state, d.uplink.lane with
  | .quiet, l => l = .empty
  | .raised, l => l = .emergency
  | .acknowledged, .track _ => True
  | .acknowledged, l => l = .empty
  | .cancelling, l => l = .cancel

/-- The emergency record: what each state says of the window, the timer and the two counts (R163, R168 to R174). -/
def EmergencyLaw (d : Device) : Prop :=
  LaneLaw d
    ∧ d.emergency.number < 256 ∧ d.emergency.window ≤ Config.cancelWindow
    ∧ (d.emergency.window ≠ 0 → d.emergency.state = .raised ∨ d.emergency.state = .acknowledged)
    ∧ (d.emergency.track.isSome = true ↔ d.emergency.state = .acknowledged)
    ∧ (∀ n ∈ d.emergency.track, 1 ≤ n ∧ n ≤ 600)
    ∧ (d.emergency.state = .quiet → d.emergency.alarmSent = false)
    ∧ (d.emergency.state = .cancelling → d.emergency.alarmSent = true)
    ∧ (d.emergency.state ≠ .cancelling → d.emergency.cancelSent = 0)
    ∧ d.emergency.cancelSent < Config.cancelLimit

/-! ### Channel Controller (05) -/

/-- The attempt has failed and its backoff runs (R82). -/
def Logon.inBackoff (l : Logon) : Bool :=
  match l.wait with
  | .backoff _ => true
  | .backoffDue => true
  | _ => false

/-- What each registration state says of the address, the network, the logon record and the timers (R80 to R91). -/
def RegistrationLaw (d : Device) : Prop :=
  (∀ a ∈ d.channel.address, addressOk a = true ∧ d.channel.network.isSome)
    ∧ d.channel.lossTimer ≤ Config.headerLoss ∧ (∀ n ∈ d.channel.lostPeriod, n < Config.lostPeriod)
    ∧ (d.channel.logon.isSome = true ↔ d.channel.reg = .logonWait)
    ∧ (∀ l ∈ d.channel.logon, 1 ≤ l.attempt ∧ l.attempt ≤ Config.logonAttempts
        ∧ (l.inBackoff = true → l.attempt < Config.logonAttempts)
        ∧ (l.kind = .resume ↔ d.channel.address.isSome = true))
    ∧ (d.channel.holdTimer ≠ 0 ↔ d.channel.reg = .logonHold) ∧ d.channel.holdTimer ≤ Config.logonHold
    ∧ (match d.channel.reg with
       | .searching => d.channel.address = none ∧ d.channel.network = none ∧ d.channel.lostPeriod = none
       | .logonWait => d.channel.network.isSome = true
       | .logonHold => d.channel.address = none ∧ d.channel.network.isSome ∧ d.channel.lostPeriod = none
       | .registered => d.channel.address.isSome ∧ d.channel.lostPeriod = none
       | .lost => d.channel.network.isSome ∧ d.channel.lostPeriod.isSome
       | .barred => d.channel.lostPeriod = none
       | .incompatible => d.channel.address = none ∧ d.channel.network = none ∧ d.channel.lostPeriod = none)

/-! ### Sign and Display (10) -/

/-- The entry shown and the last record made are those the part's state gives, the seventh law's entry 7 among them
(R181, R186). -/
def SignTrue (d : Device) : Prop := d.sign.selected = selectEntry d ∧ d.sign.last = some (displayRecord d)

/-- The sign is true; the pattern table has its 8 entries; a record waits only while one is being sent, and the last
record the output will have taken is the last one made (R179, R180, R186). -/
def SignLaw (d : Device) : Prop :=
  SignTrue d ∧ d.sign.table.length = 8 ∧ d.sign.flash < 8
    ∧ (d.sign.waiting.isSome = true → d.sign.sending.isSome = true)
    ∧ (d.sign.sending.isSome = true → d.sign.waiting.or d.sign.sending = d.sign.last)

/-! ### Host Link (11) -/

/-- The reply being sent. -/
def Transmitter.replyOf : Transmitter → Option Reply
  | .reply r => some r
  | _ => none

/-- A notice is being sent. -/
def Transmitter.isNotice : Transmitter → Bool
  | .notice _ => true
  | _ => false

/-- The one reply that waits or is being sent. -/
def Link.replyOut (l : Link) : Option Reply := l.replyWaiting.or l.tx.replyOf

/-- One request in hand at most, whose one reply waits or is being sent; the queues in their bounds; nothing waits that
could go (R190, R191, R193). -/
def LinkLaw (l : Link) : Prop :=
  l.input.length ≤ Config.inputSize ∧ l.notices.length ≤ Config.noticeSize ∧ l.crcErrors ≤ Config.count8Top
    ∧ l.inHand = l.replyOut.map (fun r => ⟨r.kind, r.tag⟩)
    ∧ (l.replyWaiting.isSome = true → l.tx.isNotice = true)
    ∧ (l.inHand = none → l.accepting = true → l.input = [])
    ∧ (l.tx = .idle → l.notices = [])

/-! ### Words for what a command leaves behind -/

/-- The link can take a request at once: accepting, none in hand, no reply waiting, none in the queue (R191). -/
def LinkReady (d : Device) : Prop :=
  d.link.accepting = true ∧ d.link.inHand = none ∧ d.link.replyWaiting = none ∧ d.link.input = []

/-- The link once it has taken a request and answered it with `r`: the reply goes at once when the transmitter is IDLE,
and waits otherwise (R191, R193). -/
def Link.answering (r : Reply) (l : Link) : Link :=
  match l.tx with
  | .idle => { l with inHand := some ⟨r.kind, r.tag⟩, tx := .reply r, replyWaiting := none }
  | _ => { l with inHand := some ⟨r.kind, r.tag⟩, replyWaiting := some r }

/-- A reply that carries OK and no indicator. -/
def okReply (kind tag : Byte) (data : ReplyData) : Reply := ⟨kind, tag, .ok, .none, data⟩

/-- A reply that carries a refusal alone. -/
def refusal (kind tag : Byte) (r : Result) : Reply := ⟨kind, tag, r, .none, .none⟩

/-- A request is answered with `r` and leaves the part as `d`, but that Sign and Display has taken the change and the
link the reply. -/
def Answered (c : Instr) (s : State) (r : Reply) (d : Device) : Prop :=
  exec c s = .next { s with dev := { refresh d with link := d.link.answering r } }

/-- A request is answered with `r` and changes nothing but the link, which takes the reply. -/
def Reads (c : Instr) (s : State) (r : Reply) : Prop :=
  exec c s = .next { s with dev := { s.dev with link := s.dev.link.answering r } }

/-- An event leaves the part as `d`, but that Sign and Display has taken the change and the transmitter what it can
send. -/
def Leaves (c : Instr) (s : State) (d : Device) : Prop := exec c s = .next { s with dev := finish d }

/-- The part after a command, when the command is answered with a next state. -/
def after (c : Instr) (s : State) : Device :=
  match exec c s with
  | .next t => t.dev
  | _ => s.dev

/-- A command completes, and changes the part alone. -/
def Completes (c : Instr) (s : State) : Prop := exec c s = .next { s with dev := after c s }

/-- A TARIFF_ITEM is answered with OK and leaves this staging set, and changes nothing else. -/
def Stages (c : Instr) (tag : Byte) (s : State) (staged : Staging) : Prop :=
  Answered c s (okReply 0x11 tag .none) { s.dev with tariff := { s.dev.tariff with load := some staged } }

/-- The part a HIRE leaves under tariff `n`, whose parameters are `x` (R5, R6, R71, R138): the schedule's result, the
trip context with its values at HIRE, the ACTIVE job linked and IN_TRIP, the meter HIRED with the window closed, the
unmetered count reset, a STATUS asked for, the open offers that are not forward removed, the booking released. -/
def hiredUnder (n : Nat) (x : Tariff) (d : Device) : Device :=
  let price := (activeOffer d).bind Offer.price
  releaseBooking .hire true (removeOffers .meterHired true (fun o => o.isOpen && !o.forward) (askStatus { d with
    tariff := { d.tariff with scheduled := scheduleResult d }
    vehicle := { d.vehicle with unmetered := ⟨0, 0, false, 0⟩ }
    offers := { d.offers with entries := d.offers.entries.map fun o =>
      if o.isActive then { o with state := .active true } else o }
    meter := { d.meter with
      state := .hired
      window := 0
      trip := some {
          number := min 4294967295 (d.tariff.lifetime.trips + 1)
          start := reading d
          startPosition := freshPosition d
          tariff := n
          used := ⟨n == 1, n == 2, n == 3, n == 4⟩
          phase := if x.d0 ≠ 0 ∧ x.t0 ≠ 0 then .initial else .normal
          accumulator := 0
          pendingTariff := none
          fare := price.getD x.flagFall
          extras := 0
          hiredEdges := 0
          hiredTicks := 0
          fixedPrice := price
          job := (activeOffer d).map Offer.job
          stop := none
          flags := ⟨false, false, d.vehicle.fault, false, false, price.isSome, false⟩ } } }))

/-- The body length a request kind allows, for the kinds that allow one length (12, Request bodies). -/
def kindLength (kind : Nat) : Option Nat :=
  if kind ∈ [0x01, 0x03, 0x04, 0x05, 0x06, 0x08, 0x09, 0x10, 0x12, 0x13, 0x1C, 0x25, 0x28, 0x30, 0x31, 0x36, 0x38, 0x3B, 0x3C]
  then some 0
  else if kind ∈ [0x07, 0x24, 0x35, 0x3A] then some 1
  else if kind ∈ [0x02, 0x29, 0x2B] then some 2
  else if kind ∈ [0x14, 0x20, 0x21, 0x22, 0x2A] then some 3
  else if kind = 0x23 then some 4
  else if kind = 0x18 then some 5
  else if kind = 0x19 then some 15
  else none

/-- A frame that a host request row stands for, with the kind code and the body of 12, Kind codes and Request bodies. -/
def rowFrame : Instr → Option Frame
  | .shiftOpen tag body => some ⟨0x01, tag, body⟩
  | .hire tag body => some ⟨0x02, tag, body⟩
  | .stop tag body => some ⟨0x03, tag, body⟩
  | .resume tag body => some ⟨0x04, tag, body⟩
  | .clear tag body => some ⟨0x05, tag, body⟩
  | .shiftClose tag body => some ⟨0x06, tag, body⟩
  | .addExtra tag body => some ⟨0x07, tag, body⟩
  | .meterRead tag body => some ⟨0x08, tag, body⟩
  | .totalsRead tag body => some ⟨0x09, tag, body⟩
  | .tariffBegin tag body => some ⟨0x10, tag, body⟩
  | .tariffItemSetCalibration tag fields => some ⟨0x11, tag, 1 :: 1 :: fields⟩
  | .tariffItemSetTariff tag fields => some ⟨0x11, tag, 2 :: 1 :: fields⟩
  | .tariffItemRemoveTariff tag fields => some ⟨0x11, tag, 2 :: 2 :: fields⟩
  | .tariffItemSetDefault tag fields => some ⟨0x11, tag, 3 :: 1 :: fields⟩
  | .bandAdd tag fields => some ⟨0x11, tag, 4 :: 3 :: fields⟩
  | .bandRemove tag fields => some ⟨0x11, tag, 4 :: 4 :: fields⟩
  | .scheduleClear tag fields => some ⟨0x11, tag, 4 :: 5 :: fields⟩
  | .tariffItemSetSupplement tag fields => some ⟨0x11, tag, 5 :: 1 :: fields⟩
  | .tariffItemRemoveSupplement tag fields => some ⟨0x11, tag, 5 :: 2 :: fields⟩
  | .tariffItemSetDecimals tag fields => some ⟨0x11, tag, 6 :: 1 :: fields⟩
  | .tariffItemSetIdentity tag fields => some ⟨0x11, tag, 7 :: 1 :: fields⟩
  | .tariffCommit tag body => some ⟨0x12, tag, body⟩
  | .tariffAbandon tag body => some ⟨0x13, tag, body⟩
  | .tariffRead tag body => some ⟨0x14, tag, body⟩
  | .clockSet tag body => some ⟨0x18, tag, body⟩
  | .position tag body => some ⟨0x19, tag, body⟩
  | .rescan tag body => some ⟨0x1C, tag, body⟩
  | .accept tag body => some ⟨0x20, tag, body⟩
  | .decline tag body => some ⟨0x21, tag, body⟩
  | .noshow tag body => some ⟨0x22, tag, body⟩
  | .offerList tag body => some ⟨0x23, tag, body⟩
  | .book tag body => some ⟨0x24, tag, body⟩
  | .unbook tag body => some ⟨0x25, tag, body⟩
  | .mailList tag body => some ⟨0x28, tag, body⟩
  | .mailRead tag body => some ⟨0x29, tag, body⟩
  | .mailReply tag body => some ⟨0x2A, tag, body⟩
  | .mailDelete tag body => some ⟨0x2B, tag, body⟩
  | .sendText tag body => some ⟨0x2C, tag, body⟩
  | .emergencyRaise tag body => some ⟨0x30, tag, body⟩
  | .emergencyCancel tag body => some ⟨0x31, tag, body⟩
  | .signLoad tag body => some ⟨0x34, tag, body⟩
  | .signBlank tag body => some ⟨0x35, tag, body⟩
  | .signRead tag body => some ⟨0x36, tag, body⟩
  | .status tag body => some ⟨0x38, tag, body⟩
  | .setConfigArbitrationMode tag value => some ⟨0x39, tag, 1 :: value⟩
  | .setConfigCovert tag value => some ⟨0x39, tag, 2 :: value⟩
  | .setConfigTrackInterval tag value => some ⟨0x39, tag, 3 :: value⟩
  | .setConfigAcceptanceList tag value => some ⟨0x39, tag, 4 :: value⟩
  | .setConfigSensorMode tag value => some ⟨0x39, tag, 5 :: value⟩
  | .setConfigOccupancyCheck tag value => some ⟨0x39, tag, 6 :: value⟩
  | .setConfigLampPolarity tag value => some ⟨0x39, tag, 7 :: value⟩
  | .getConfig tag body => some ⟨0x3A, tag, body⟩
  | .identify tag body => some ⟨0x3B, tag, body⟩
  | .reset tag body => some ⟨0x3C, tag, body⟩
  | .tagZeroRequest kind body => some ⟨kind, 0, body⟩
  | .unknownKindRequest kind tag body => some ⟨kind, tag, body⟩
  | _ => none

/-- The address of a downlink block row, the identity it carries, and whether its kind may be sent to a zone (R93). -/
def rowBlock : Instr → Option (DownAddr × Option Nat × Bool)
  | .assign dest identity _ => some (dest, some identity, false)
  | .bar dest identity => some (dest, some identity, false)
  | .unbar dest identity => some (dest, some identity, false)
  | .networkReset dest => some (dest, none, false)
  | .offer dest _ _ _ _ _ => some (dest, none, true)
  | .offerDetail dest _ _ _ => some (dest, none, true)
  | .award dest _ => some (dest, none, false)
  | .withdraw dest _ => some (dest, none, false)
  | .jobCancel dest _ => some (dest, none, false)
  | .zonePosition dest _ _ => some (dest, none, false)
  | .textPart dest _ => some (dest, none, false)
  | .emergencyAck dest identity _ => some (dest, identity, false)
  | .emergencyClear dest identity _ => some (dest, identity, false)
  | _ => none

/-- A downlink block row is taken in this state (R93). -/
def Taken (c : Instr) (d : Device) : Prop :=
  d.link.accepting = true
    ∧ ∃ b ∈ rowBlock c, cycleTakes (endCollecting d) = true ∧ addressTakes b.1 b.2.1 b.2.2 (endCollecting d) = true

/-! ### A lawful part -/

/-- Every law holds. -/
structure Lawful (d : Device) : Prop where
  supply : SupplyLaw d
  meter : MeterLaw d
  vehicle : VehicleLaw d
  items : ItemsLaw d.items
  tariff : TariffLaw d.tariff
  fare : FareLaw d
  distance : DistanceLaw d
  totals : TotalsLaw d
  offers : OfferLaw d
  bids : BidLaw d
  booking : BookingLaw d
  queue : QueueLaw d
  store : StoreLaw d
  mail : MailLaw d
  emergency : EmergencyLaw d
  registration : RegistrationLaw d
  sign : SignLaw d
  link : LinkLaw d.link

end Sys2Proof.Machine
end

