-- ==== Sys2Proof/Certificates/Slice0/Obligations.lean ====
section
/-! DEFINITION. The statements for the provers. A request row's statement says what the request does when the link can take
it at once (`LinkReady`); `RequestsAreTakenOrWait` says what happens to it otherwise. A downlink block's statement starts from
the part with a header being collected marked damaged, as any block leaves it (R75). -/

section

open Sys2Proof Sys2Proof.Machine

/-! ### The step and the new part -/

/-- The step takes the command at the front of the queue and runs it with the rest, first in first out; on an empty queue
nothing happens (the queue and the idling are the model's own: log 1, log 5). Every command of the table completes in
every state and changes the part alone: none faults, none is refused, and the commands that wait stay as they are. -/
def Obligations.StepTakesTheFrontCommand : Prop :=
  (∀ (c : Instr) (rest : List Instr) (s : State), s.pending = c :: rest → step s = exec c { s with pending := rest })
    ∧ (∀ s : State, s.pending = [] → step s = .next s)
    ∧ ∀ (c : Instr) (s : State), Completes c s

/-- The state the model starts in is what POWER_ON makes of a part as it leaves the factory: whatever a part did, once
its non-volatile memory is as new and the vehicle's inputs are inactive, POWER_ON with no backup clock leaves
`State.reset` with the draws made so far and, after a supply warning, POWER_INTERRUPTED (log 4: the model's choice of the
values the manual does not give). -/
def Obligations.NewPartPowersOnAsReset : Prop :=
  ∀ (s : State) (k : Bool),
    s.dev.pins = { State.reset.dev.pins with supplyWarning := s.dev.pins.supplyWarning } →
    s.dev.tariff.inForce = none → s.dev.tariff.revision = 0 → s.dev.tariff.lifetime = Lifetime.zero →
    s.dev.store = { records := [], next := 1 } → s.dev.meter.lastShift = 0 → s.dev.items = newItems →
    s.dev.sign.table = defaultPatterns → (k = true → s.dev.backed = none) →
    exec (.powerOn none k) s =
      .next { s with dev :=
        { State.reset.dev with
          draws := s.dev.draws
          link := { State.reset.dev.link with
            sticky := { Sticky.clear with powerInterrupted := !s.dev.link.accepting } } } }

/-- The state after reset obeys every law of the part. -/
def Obligations.LawsHoldAtReset : Prop := Lawful State.reset.dev

/-! ### What every step keeps -/

/-- The supply, the meter's states, Vehicle Inputs and the stored items stay lawful (R2, R24, R41, R48, R50, R196). -/
def Obligations.SupplyAndMeterLawsKept : Prop :=
  ∀ s t : State, Lawful s.dev → step s = .next t →
    SupplyLaw t.dev ∧ MeterLaw t.dev ∧ VehicleLaw t.dev ∧ ItemsLaw t.dev.items

/-- The set in force is a whole, checked set with its derived sizes, at every step (R27, R58, R60 to R65, R69); and it
changes only when a commit completes: the load ends, the staging set passed every check and is what is in force, and the
revision counts one more (the fourth law). -/
def Obligations.SetInForceIsWhole : Prop :=
  ∀ s t : State, Lawful s.dev → step s = .next t →
    TariffLaw t.dev.tariff
    ∧ (t.dev.tariff.inForce ≠ s.dev.tariff.inForce →
        ∃ staged ∈ s.dev.tariff.load, ∃ set, checkSet staged = .ok set ∧ t.dev.tariff.inForce = some set
          ∧ t.dev.tariff.revision = s.dev.tariff.revision + 1 ∧ t.dev.tariff.load = none)
    ∧ (t.dev.tariff.revision = s.dev.tariff.revision ∨ t.dev.tariff.revision = s.dev.tariff.revision + 1)

/-- The first law: from the HIRE that opens a trip until the CLEAR that ends it the fare never decreases and never
exceeds 999,999, whatever happens, loss of supply included as long as the trip is held; and the trip stays lawful under
the set in force (R5, R9, R12, R33 to R35). -/
def Obligations.FareNeverDecreases : Prop :=
  ∀ s t : State, Lawful s.dev → step s = .next t →
    FareLaw t.dev
    ∧ ∀ a ∈ s.dev.meter.trip, ∀ b ∈ t.dev.meter.trip, a.number = b.number ∧ a.fare ≤ b.fare ∧ b.fare ≤ 999999

/-- The third law: lifetime hired metres never exceed lifetime total metres, and while a shift is open, shift hired
metres never exceed shift total metres; with the residues that make it so. -/
def Obligations.HiredMetresStayBelowTotal : Prop :=
  ∀ s t : State, Lawful s.dev → step s = .next t →
    DistanceLaw t.dev
    ∧ t.dev.tariff.lifetime.hiredMetres ≤ t.dev.tariff.lifetime.totalMetres
    ∧ ∀ x ∈ t.dev.meter.shift, x.hiredMetres ≤ x.totalMetres

/-- The second law: no lifetime total ever decreases, in any step, and each stays in its range. -/
def Obligations.TotalsNeverDecrease : Prop :=
  ∀ s t : State, Lawful s.dev → step s = .next t →
    Lifetime.atLeast s.dev.tariff.lifetime t.dev.tariff.lifetime ∧ TotalsLaw t.dev

/-- The sixth law, the bids of the table and of the queue, and the booking with the fifth law: a booking is held only for
hire, with an address and no call in progress (R123 to R146). -/
def Obligations.OffersAndBookingStayLawful : Prop :=
  ∀ s t : State, Lawful s.dev → step s = .next t → OfferLaw t.dev ∧ BidLaw t.dev ∧ BookingLaw t.dev

/-- The ninth law with what it rests on, the Trip Store with the one accounting entry (R20 to R22, R98 to R104), and the
eleventh law: the mailbox holds at most 8 messages of distinct numbers, with their receipts and replies, and the buffers
are never complete (R149 to R158). -/
def Obligations.QueueStoreAndMailStayLawful : Prop :=
  ∀ s t : State, Lawful s.dev → step s = .next t → QueueLaw t.dev ∧ StoreLaw t.dev ∧ MailLaw t.dev

/-- The lane holds what the emergency state calls for, and the record's fields agree with the state (R118, R163 to R174);
each registration state holds the address, the network, the logon record and the timers it calls for (R80 to R91). -/
def Obligations.CallAndRegistrationStayLawful : Prop :=
  ∀ s t : State, Lawful s.dev → step s = .next t → EmergencyLaw t.dev ∧ RegistrationLaw t.dev

/-- After every step the entry shown is the one the table of R181 gives, entry 7 while a call is RAISED or ACKNOWLEDGED
(the seventh law), and the last passenger display record made is the one the part's state gives (R185, R186). One request
at most is in hand and its one reply waits or is being sent; the queues keep their bounds (R190 to R193). -/
def Obligations.SignAndLinkStayLawful : Prop :=
  ∀ s t : State, Lawful s.dev → step s = .next t →
    SignLaw t.dev ∧ LinkLaw t.dev.link
    ∧ (t.dev.emergency.state = .raised ∨ t.dev.emergency.state = .acknowledged → t.dev.sign.selected = 7)

/-- The tenth law: a block sent in a step is an emergency, a withdrawal or a track of the lane; or a logon or resume in
LOGON_WAIT in a cycle whose view is OWN; or a queue message in REGISTERED in such a cycle, a BID only with no call in
progress. After a supply warning nothing but the lane's EMERGENCY and CANCEL is sent (R79, R108, R118 to R122). -/
def Obligations.OnlyPermittedBlocksAreSent : Prop :=
  ∀ s t : State, Lawful s.dev → step s = .next t →
    ∀ x ∈ t.dev.radio, x ∈ s.dev.radio ∨
      (match x.block.content with
       | .emergency _ => s.dev.uplink.lane = .emergency
       | .cancel _ _ => s.dev.uplink.lane = .cancel
       | .track r => s.dev.uplink.lane = .track r ∧ s.dev.link.accepting = true
       | .logon _ => s.dev.channel.reg = .logonWait ∧ viewOwn s.dev = true ∧ s.dev.link.accepting = true
       | .resume _ _ => s.dev.channel.reg = .logonWait ∧ viewOwn s.dev = true ∧ s.dev.link.accepting = true
       | .bid _ => s.dev.channel.reg = .registered ∧ viewOwn s.dev = true ∧ s.dev.link.accepting = true
           ∧ s.dev.emergency.state = .quiet
       | _ => s.dev.channel.reg = .registered ∧ viewOwn s.dev = true ∧ s.dev.link.accepting = true)

/-- From a supply warning until power-on or the release of the warning no command changes the meter, the vehicle's counts,
the tariffs, the totals, the offers, the mailbox, the emergency record, the items or what was saved. The input levels, the
radio's cycle with its view, header and plan, the blocks sent in it, the output of what was being sent and the flash clock
go on. In the queue an entry changes its state alone, in the store a record its mark alone, and a logon backoff that has
run out may end (R24, R43, R97, R118, R176, R186, R201; what a wheel edge still does is log 40, the list of blocks log 10). -/
def Obligations.HeldPartKeepsItsRecords : Prop :=
  ∀ (c : Instr) (s t : State), s.dev.link.accepting = false → exec c s = .next t →
    (∀ b k, c ≠ .powerOn b k) → (∀ n, c ≠ .supplyWarningRelease n) →
    let x := s.dev
    let y := t.dev
    y = { x with
      pins := { y.pins with supplyWarning := x.pins.supplyWarning }
      channel := { x.channel with view := y.channel.view, headerRx := y.channel.headerRx, logon := y.channel.logon }
      uplink := { x.uplink with entries := y.uplink.entries, inFlight := y.uplink.inFlight, plan := y.uplink.plan }
      store := { x.store with records := y.store.records }
      sign := { x.sign with sending := y.sign.sending, waiting := y.sign.waiting, flash := y.sign.flash }
      link := { x.link with tx := y.link.tx, replyWaiting := y.link.replyWaiting, inHand := y.link.inHand }
      radio := y.radio }
    ∧ (y.channel.view = x.channel.view ∨ y.channel.view = none)
    ∧ y.channel.logon.map Logon.kind = x.channel.logon.map Logon.kind
    ∧ (y.uplink.inFlight = x.uplink.inFlight ∨ y.uplink.inFlight = none)
    ∧ y.uplink.entries.map (fun e => { e with state := .waiting }) = x.uplink.entries.map (fun e => { e with state := .waiting })
    ∧ y.store.records.map (fun r => { r with mark := .waiting }) = x.store.records.map (fun r => { r with mark := .waiting })

/-- The bytes of a frame, laid out as 12 gives them with their CRC, are the request they carry: a receiver in HUNTING that
takes them byte by byte does what the request's own row does, for every request row, tag and body. -/
def Obligations.FrameBytesAreTheirRequest : Prop :=
  ∀ (c : Instr) (f : Frame) (s : State), rowFrame c = some f → f.body.length ≤ 200 →
    s.dev.link.rx = .hunting →
    exec (.frameReceived (frameBytes f)) s = exec c s ∧ Completes (.frameReceived (frameBytes f)) s

/-! ### Requests at the link (11) -/

/-- A checked request that cannot be taken at once: from a supply warning on it is discarded; a full input queue drops it
with LINK_OVERRUN; otherwise it waits as the last of the input queue while a request is in hand. A request taken at once is
in hand with one reply made for it, which carries its kind and its tag; and a request that is refused leaves everything but
the link as it was (R190 to R192, R201). That a request row is the arrival of a checked frame, taken in the same step when
the link is free, is the model's reading (log 6). -/
def Obligations.RequestsAreTakenOrWait : Prop :=
  (∀ (c : Instr) (f : Frame) (s : State), rowFrame c = some f →
    (s.dev.link.accepting = false → exec c s = .next s)
    ∧ (s.dev.link.accepting = true → 4 ≤ s.dev.link.input.length →
        exec c s = .next { s with dev :=
          { s.dev with link := { s.dev.link with sticky := { s.dev.link.sticky with linkOverrun := true } } } })
    ∧ (s.dev.link.accepting = true → s.dev.link.input.length < 4 →
        s.dev.link.inHand.isSome = true ∨ s.dev.link.replyWaiting.isSome = true →
        exec c s = .next { s with dev :=
          { s.dev with link := { s.dev.link with input := s.dev.link.input ++ [f] } } }))
  ∧ (∀ (c : Instr) (f : Frame) (s t : State), rowFrame c = some f → LinkReady s.dev → SignTrue s.dev →
    exec c s = .next t →
    ∃ r : Reply, r.kind = f.kind ∧ r.tag = f.tag ∧ t.dev.link.inHand = some ⟨f.kind, f.tag⟩
      ∧ (t.dev.link.tx = .reply r ∨ t.dev.link.replyWaiting = some r)
      ∧ (r.result ≠ .ok → r.indicator = .none ∧ t.dev = { s.dev with link := s.dev.link.answering r }))

/-- A frame with tag 0 is refused with MALFORMED whatever its kind, a frame of a kind the part does not have with
UNKNOWN_KIND, and a frame whose body has not the length its kind allows is refused too. A TARIFF_ITEM whose item and
operation are no pair of 12 is refused with SEQUENCE when no load is in progress and else with MALFORMED, and a SET_CONFIG
of an unknown item with MALFORMED (R62, R196); a body too short to name one is the same. None of them changes anything but
the link. -/
def Obligations.BadRequestsRefused : Prop :=
  ∀ (s : State) (kind tag : Byte) (body : List Byte), LinkReady s.dev → SignTrue s.dev →
    Reads (.tagZeroRequest kind body) s (refusal kind 0 .malformed)
    ∧ (tag ≠ 0 →
        kind.toNat ∉ [0x01, 0x02, 0x03, 0x04, 0x05, 0x06, 0x07, 0x08, 0x09, 0x10, 0x11, 0x12, 0x13, 0x14, 0x18, 0x19, 0x1C,
          0x20, 0x21, 0x22, 0x23, 0x24, 0x25, 0x28, 0x29, 0x2A, 0x2B, 0x2C, 0x30, 0x31, 0x34, 0x35, 0x36, 0x38, 0x39, 0x3A,
          0x3B, 0x3C] →
        Reads (.unknownKindRequest kind tag body) s (refusal kind tag .unknownKind))
    ∧ (tag ≠ 0 → ∀ n ∈ kindLength kind.toNat, body.length ≠ n →
        ∀ c : Instr, rowFrame c = some ⟨kind, tag, body⟩ →
          ∃ r : Reply, r.result ≠ .ok ∧ r.kind = kind ∧ r.tag = tag ∧ Reads c s r)
    ∧ (tag ≠ 0 → s.dev.link.rx = .hunting → body.length ≤ 200 →
        (byteAt body 0, byteAt body 1) ∉
          [(1, 1), (2, 1), (2, 2), (3, 1), (4, 3), (4, 4), (4, 5), (5, 1), (5, 2), (6, 1), (7, 1)] →
        Reads (.frameReceived (frameBytes ⟨0x11, tag, body⟩)) s
          (refusal 0x11 tag (if s.dev.tariff.load = none then .sequence else .malformed)))
    ∧ (tag ≠ 0 → s.dev.link.rx = .hunting → body.length ≤ 200 → byteAt body 0 < 1 ∨ 7 < byteAt body 0 →
        Reads (.frameReceived (frameBytes ⟨0x39, tag, body⟩)) s (refusal 0x39 tag .malformed))

/-- The link's own events. TRANSMIT_COMPLETE: after a notice the transmitter takes the waiting reply of the request in hand
before any notice, and else the oldest notice; a reply sent whole ends the request in hand, and the oldest request of the
input queue, if one waits, is taken then and does what its row does, the others going on waiting unless it is a RESET that
empties the queue (R191, R193, R199). A start byte in HUNTING begins a frame; a frame whose last bytes are not its CRC is
dropped and counted, with no reply and no other change; a body length over 200 drops it and counts a CRC error, and so does
the second tick in a row without a byte (R188, R189). What the transmitter sends: of a reply the request's code plus 80h, its
tag, its result, its indicator and its data (of a kind of 80h or more the code is free, log 51); of a notice its kind, tag 0
and its fields; each in a frame with its start byte, its length and its CRC (R192, R193; 12). The data of a reply that
carries none is no byte, nor are the fields of a notice without any; the bytes of other fields are free (log 56). -/
def Obligations.LinkEventsAct : Prop :=
  ∀ (s : State), s.dev.link.accepting = true →
    (s.dev.link.tx = .idle → exec .transmitComplete s = .next s)
    ∧ (s.dev.link.tx.isNotice = true → s.dev.link.inHand.isSome = true → ∀ r ∈ s.dev.link.replyWaiting,
        exec .transmitComplete s = .next { s with dev :=
          { s.dev with link := { s.dev.link with tx := .reply r, replyWaiting := none } } })
    ∧ (s.dev.link.tx.isNotice = true → s.dev.link.replyWaiting = none → s.dev.link.inHand = none → s.dev.link.input = [] →
        exec .transmitComplete s = .next { s with dev :=
          { s.dev with link := { s.dev.link with
              tx := (match s.dev.link.notices.head? with
                | some n => .notice n
                | none => .idle)
              notices := s.dev.link.notices.tail } } })
    ∧ (s.dev.link.tx.replyOf.isSome = true → s.dev.link.replyWaiting = none → s.dev.link.input = [] →
        exec .transmitComplete s = .next { s with dev :=
          { s.dev with link := { s.dev.link with
              inHand := none
              tx := (match s.dev.link.notices.head? with
                | some n => .notice n
                | none => .idle)
              notices := s.dev.link.notices.tail } } })
    ∧ (s.dev.link.tx.replyOf.isSome = true → s.dev.link.replyWaiting = none → ∀ (c : Instr) (f : Frame) (rest : List Frame),
        rowFrame c = some f → s.dev.link.input = f :: rest →
        let ended : Link := { s.dev.link with
          inHand := none, input := []
          tx := (match s.dev.link.notices.head? with
            | some n => .notice n
            | none => .idle)
          notices := s.dev.link.notices.tail }
        let t := after c { s with dev := { s.dev with link := ended } }
        let emptied : Bool := f.kind == 0x3C && f.tag != 0 && f.body == [] && s.dev.emergency.state == .quiet
          && (s.dev.meter.state == .uncalibrated || s.dev.meter.state == .offDuty)
        exec .transmitComplete s = .next { s with dev :=
          { t with link := { t.link with input := if emptied then [] else rest } } })
    ∧ (s.dev.link.rx.bytes = [] →
        exec .frameStart s = .next { s with dev :=
          { s.dev with link := { s.dev.link with rx := ⟨[0x5A], 0, true⟩ } } })
    ∧ (s.dev.link.rx = .hunting → ∀ (kind tag : Byte) (body : List Byte) (crc : Nat), body.length ≤ 200 → crc < 65536 →
        let inner : List Byte := BitVec.ofNat 8 body.length :: kind :: tag :: body
        crc ≠ crc16 inner →
        exec (.frameReceived (0x5A :: (inner ++ writeBytes 2 crc))) s = .next { s with dev :=
          { s.dev with link := { s.dev.link with crcErrors := min 255 (s.dev.link.crcErrors + 1) } } })
    ∧ (s.dev.link.rx.bytes = [0x5A] → ∀ n : Byte, 200 < n.toNat →
        exec (.frameLengthOversize n) s = .next { s with dev :=
          { s.dev with link := { s.dev.link with
              rx := .hunting, crcErrors := min 255 (s.dev.link.crcErrors + 1) } } })
    ∧ (s.dev.link.rx.bytes ≠ [] → s.dev.link.rx.byteSeen = false → s.dev.link.rx.gap ≠ 0 →
        Leaves .frameGapTimeout s
          { s.dev with link := { s.dev.link with
              rx := .hunting, crcErrors := min 255 (s.dev.link.crcErrors + 1) } })
    ∧ (∀ r : Reply, r.kind.toNat < 128 →
        (Transmitter.reply r).front = [BitVec.ofNat 8 (r.kind.toNat + 128), r.tag,
          (match r.result with
            | .ok => 0x00
            | .unknownKind => 0x01
            | .malformed => 0x02
            | .outOfRange => 0x03
            | .wrongState => 0x04
            | .notPermitted => 0x05
            | .locked => 0x06
            | .sequence => 0x07
            | .stepRange => 0x08
            | .incomplete => 0x09
            | .queueFull => 0x0A
            | .notFound => 0x0B
            | .tooLate => 0x0C
            | .onlyBase => 0x0D),
          (match r.indicator with
            | .none => 0x00
            | .restarted => 0x01
            | .already => 0x02)])
    ∧ (∀ n : Notice,
        (Transmitter.notice n).front = [(match n with
          | .started _ _ _ _ _ => 0x40
          | .registration _ _ _ _ => 0x41
          | .delivered _ _ => 0x42
          | .failed _ _ _ => 0x43
          | .offer _ _ => 0x44
          | .offerRemoved _ _ _ => 0x45
          | .jobAwarded _ _ => 0x46
          | .jobPromoted _ => 0x46
          | .jobNotHeld _ _ => 0x46
          | .zone _ _ => 0x47
          | .newMail _ _ _ _ => 0x48
          | .mailEvicted _ _ _ => 0x49
          | .emergencyPanic _ _ _ => 0x4A
          | .emergency _ _ _ => 0x4A
          | .switch _ => 0x4B
          | .loadAborted => 0x4C
          | .sensorFault => 0x4D
          | .distanceImplausible => 0x4E
          | .unmetered => 0x4F), 0])
    ∧ (∀ r : Reply,
        let data := r.data.bytes
        let inner : List Byte := BitVec.ofNat 8 (2 + data.length) :: ((Transmitter.reply r).front ++ data)
        (Transmitter.reply r).bytes = 0x5A :: (inner ++ writeBytes 2 (crc16 inner))
        ∧ data.length ≤ 198 ∧ (r.data = .none → data = []))
    ∧ (∀ n : Notice,
        let inner : List Byte := BitVec.ofNat 8 n.body.length :: ((Transmitter.notice n).front ++ n.body)
        (Transmitter.notice n).bytes = 0x5A :: (inner ++ writeBytes 2 (crc16 inner))
        ∧ n.body.length ≤ 200
        ∧ (n ∈ [Notice.loadAborted, .sensorFault, .distanceImplausible, .unmetered] → n.body = []))

/-- STATUS reports the eight conditions as they stand, with the state of every block, and clears them together; in covert
mode the emergency state it tells is QUIET (R194, R195). METER_READ and TOTALS_READ are taken in every state, change nothing,
and carry what R18 and R19 list: in HIRED and STOPPED the trip as it stands, with its metres and seconds converted; the
lifetime totals and, with a shift open, its totals without the residues. -/
def Obligations.StatusMeterAndTotalsAreRead : Prop :=
  (∀ (s : State) (tag : Byte), LinkReady s.dev → tag ≠ 0 →
    Answered (.status tag []) s
      (okReply 0x38 tag (.status
        { meter := s.dev.meter.state
          reg := s.dev.channel.reg
          address := s.dev.channel.address
          emergency := if s.dev.items.covert = true then .quiet else s.dev.emergency.state
          switchOpen := s.dev.tariff.switch.isOpen
          clockSet := s.dev.vehicle.calendar.time.isSome
          booking := s.dev.offers.booking
          crcErrors := s.dev.link.crcErrors
          queueFill := s.dev.uplink.entries.length
          storeFill := s.dev.store.records.length
          unread := s.dev.mail.mail.countP (fun m => m.state == .unread)
          sticky := s.dev.link.sticky }))
      { s.dev with link := { s.dev.link with sticky := ⟨false, false, false, false, false, false, false, false⟩ } })
  ∧ (∀ (s : State) (tag : Byte), LinkReady s.dev → SignTrue s.dev → tag ≠ 0 →
    Reads (.meterRead tag []) s
      (okReply 0x08 tag (.meter s.dev.meter.state (s.dev.meter.shift.map Shift.number)
        (if s.dev.meter.state = .hired ∨ s.dev.meter.state = .stopped then s.dev.meter.trip.map (fun t =>
          { number := t.number, tariff := t.tariff, used := t.used, phase := t.phase, pendingTariff := t.pendingTariff
            fare := t.fare, extras := t.extras
            hiredMetres := t.hiredEdges * 1000 / (s.dev.tariff.inForce.map TariffSet.k).getD 0
            hiredSeconds := t.hiredTicks / 10, fixedPrice := t.fixedPrice, job := t.job, flags := t.flags
            window := s.dev.meter.window, stop := t.stop }) else none)))
    ∧ Reads (.totalsRead tag []) s
        (okReply 0x09 tag (.totals s.dev.tariff.lifetime (s.dev.meter.shift.map fun x =>
          { number := x.number, opened := x.opened, trips := x.trips, totalMetres := x.totalMetres
            hiredMetres := x.hiredMetres, fareTotal := x.fareTotal, extrasTotal := x.extrasTotal
            unmetered := x.unmetered, emergencies := x.emergencies }))))

/-! ### Fare Meter (01) -/

/-- A request of the meter in a state the table of R1 does not list for it is refused with WRONG_STATE, before any other
check, and leaves the part as it was but for the link's reply. -/
def Obligations.MeterRequestsByState : Prop :=
  ∀ (s : State) (tag : Byte) (body : List Byte), LinkReady s.dev → SignTrue s.dev → MeterLaw s.dev → tag ≠ 0 →
    (s.dev.meter.state ≠ .offDuty → Reads (.shiftOpen tag body) s (refusal 0x01 tag .wrongState))
    ∧ (s.dev.meter.state ≠ .forHire → Reads (.hire tag body) s (refusal 0x02 tag .wrongState))
    ∧ (s.dev.meter.state ≠ .hired → Reads (.stop tag body) s (refusal 0x03 tag .wrongState))
    ∧ (s.dev.meter.state ≠ .stopped → Reads (.resume tag body) s (refusal 0x04 tag .wrongState))
    ∧ (s.dev.meter.state ≠ .stopped → Reads (.clear tag body) s (refusal 0x05 tag .wrongState))
    ∧ (s.dev.meter.state ≠ .forHire → Reads (.shiftClose tag body) s (refusal 0x06 tag .wrongState))
    ∧ (s.dev.meter.state ≠ .hired → s.dev.meter.state ≠ .stopped →
        Reads (.addExtra tag body) s (refusal 0x07 tag .wrongState))

/-- SHIFT_OPEN in OFF_DUTY with no load in progress: the next shift number, every total 0, the clock's reading, FOR_HIRE;
a held sensor fault is cleared (R46) and a STATUS is asked for (R17). With a load in progress it is refused. SHIFT_CLOSE in
FOR_HIRE: the shift record is appended with the records lost at that moment, the open offers are removed, the booking is
released, and the meter goes to OFF_DUTY with no shift. That the offers go between the record and
the booking (log 57), in table order (log 58), is the model's choice. -/
def Obligations.ShiftsOpenAndClose : Prop :=
  (∀ (s : State) (tag : Byte), LinkReady s.dev → tag ≠ 0 → s.dev.meter.state = .offDuty →
    (s.dev.tariff.load = none →
      let n := if s.dev.meter.lastShift < 65535 then s.dev.meter.lastShift + 1 else 1
      Answered (.shiftOpen tag []) s (okReply 0x01 tag (.shiftNumber n))
        (askStatus { s.dev with
          meter := { s.dev.meter with
            state := .forHire, lastShift := n
            shift := some { number := n, opened := reading s.dev, trips := 0, totalMetres := 0, hiredMetres := 0
                            fareTotal := 0, extrasTotal := 0, unmetered := 0, emergencies := 0, totalResidue := 0
                            hiredResidue := 0 } }
          vehicle := { s.dev.vehicle with
            fault := false
            phaseErrors := if s.dev.vehicle.fault then emptyWindow else s.dev.vehicle.phaseErrors } }))
    ∧ (s.dev.tariff.load ≠ none → SignTrue s.dev → Reads (.shiftOpen tag []) s (refusal 0x01 tag .wrongState)))
  ∧ (∀ (s : State) (tag : Byte), LinkReady s.dev → tag ≠ 0 → s.dev.meter.state = .forHire →
    ∀ x ∈ s.dev.meter.shift,
    let room := makeRoom s.dev
    let kept := storeRecord (.shift
      { shift := x.number, opened := x.opened, closed := reading s.dev, trips := x.trips, totalMetres := x.totalMetres
        hiredMetres := x.hiredMetres, fareTotal := x.fareTotal, extrasTotal := x.extrasTotal
        unmetered := x.unmetered, emergencies := x.emergencies
        recordsLost := room.tariff.lifetime.recordsLost }) room
    let closed := releaseBooking .offDuty true (removeOffers .offDuty true Offer.isOpen kept.2)
    Answered (.shiftClose tag []) s (okReply 0x06 tag (.recordNumber kept.1))
      (askStatus { closed with
        meter := { s.dev.meter with state := .offDuty, shift := none }
        vehicle := { s.dev.vehicle with
          fault := false
          phaseErrors := if s.dev.vehicle.fault then emptyWindow else s.dev.vehicle.phaseErrors
          unmetered := ⟨0, 0, false, 0⟩ } }))

/-- HIRE in FOR_HIRE chooses the tariff from the schedule, the number given and the default as R4's table says, makes the
trip under it, or refuses with the part as it was. That the STATUS is asked for before the table gives up its
entries (log 57), and that these go in table order and the booking after them (log 58), are the model's choices. -/
def Obligations.HireMakesTheTrip : Prop :=
  ∀ (s : State) (tag given : Byte), LinkReady s.dev → Lawful s.dev → tag ≠ 0 → s.dev.meter.state = .forHire →
    ∀ set ∈ s.dev.tariff.inForce,
    (set.schedule ≠ [] → Reads (.hire tag [1, given]) s (refusal 0x02 tag .notPermitted))
    ∧ (set.schedule = [] → given.toNat < 1 ∨ 4 < given.toNat →
        Reads (.hire tag [1, given]) s (refusal 0x02 tag .outOfRange))
    ∧ (set.schedule = [] → 1 ≤ given.toNat → given.toNat ≤ 4 → tariffAt set.tariffs given.toNat = none →
        Reads (.hire tag [1, given]) s (refusal 0x02 tag .notFound))
    ∧ (set.schedule = [] → 1 ≤ given.toNat → ∀ x ∈ tariffAt set.tariffs given.toNat,
        Answered (.hire tag [1, given]) s (okReply 0x02 tag .none) (hiredUnder given.toNat x s.dev))
    ∧ (set.schedule = [] ∨ s.dev.vehicle.calendar.time = none → ∀ x ∈ tariffAt set.tariffs set.default,
        Answered (.hire tag [0, given]) s (okReply 0x02 tag .none) (hiredUnder set.default x s.dev))
    ∧ (set.schedule ≠ [] → ∀ now ∈ s.dev.vehicle.calendar.time,
        ∀ x ∈ tariffAt set.tariffs (bandResult set now s.dev.vehicle.calendar.holiday),
        Answered (.hire tag [0, given]) s (okReply 0x02 tag .none)
          (hiredUnder (bandResult set now s.dev.vehicle.calendar.holiday) x s.dev))

/-- STOP in HIRED freezes the trip and opens the window of 200 ticks; RESUME in STOPPED goes on with the trip as it stood
while the window is open, with the tariff the held evaluation names pending, and is refused with TOO_LATE when it is
closed. CLEAR in STOPPED: the six steps in their order. The record is appended, the shift and the lifetime totals take the
trip, the linked job leaves the table as COMPLETED, and the meter goes to FOR_HIRE with no trip. That an entry admitted anew
under the linked job after a power-on leaves as COMPLETED too, where R147 says that the CLEAR changes nothing in the table, is
the model's choice (log 46). -/
def Obligations.TripsStopGoOnAndEnd : Prop :=
  (∀ (s : State) (tag : Byte), LinkReady s.dev → Lawful s.dev → tag ≠ 0 →
    ∀ t ∈ s.dev.meter.trip, ∀ set ∈ s.dev.tariff.inForce,
    (s.dev.meter.state = .hired →
      Answered (.stop tag []) s (okReply 0x03 tag (.fareExtras t.fare t.extras))
        (askStatus { s.dev with meter := { s.dev.meter with
          state := .stopped, window := 200, replaced := none
          trip := some { t with pendingTariff := none, stop := reading s.dev } } }))
    ∧ (s.dev.meter.state = .stopped → s.dev.meter.window = 0 → Reads (.resume tag []) s (refusal 0x04 tag .tooLate))
    ∧ (s.dev.meter.state = .stopped → s.dev.meter.window ≠ 0 →
        Answered (.resume tag []) s (okReply 0x04 tag .none)
          (askStatus { s.dev with meter := { s.dev.meter with
            state := .hired, window := 0
            trip := some { t with
              stop := none
              pendingTariff :=
                if t.fixedPrice = none ∧ t.flags.fareCapped = false ∧ set.schedule ≠ [] then
                  s.dev.tariff.scheduled.filter fun n => n != t.tariff
                else none
              flags := { t.flags with sensorFault := t.flags.sensorFault || s.dev.vehicle.fault } } } })))
  ∧ (∀ (s : State) (tag : Byte), LinkReady s.dev → tag ≠ 0 → s.dev.meter.state = .stopped →
    ∀ t ∈ s.dev.meter.trip,
    let kept := storeRecord (.trip
      { trip := t.number, job := t.job, start := t.start, stop := reading s.dev, startPosition := t.startPosition
        endPosition := freshPosition s.dev, revision := s.dev.tariff.revision, used := t.used, fare := t.fare
        extras := t.extras
        hiredMetres := t.hiredEdges * 1000 / (s.dev.tariff.inForce.map TariffSet.k).getD 0
        hiredSeconds := t.hiredTicks / 10, flags := t.flags }) (makeRoom s.dev)
    let counted : Device := { kept.2 with
      meter := { s.dev.meter with
        window := 0
        shift := s.dev.meter.shift.map fun x =>
          { x with trips := min 65535 (x.trips + 1), fareTotal := min 4294967295 (x.fareTotal + t.fare)
                   extrasTotal := min 4294967295 (x.extrasTotal + t.extras) } }
      tariff := { kept.2.tariff with lifetime := { kept.2.tariff.lifetime with
        trips := min 4294967295 (s.dev.tariff.lifetime.trips + 1)
        fareSum := min 1099511627775 (s.dev.tariff.lifetime.fareSum + t.fare)
        extrasSum := min 1099511627775 (s.dev.tariff.lifetime.extrasSum + t.extras) } } }
    let completed := match t.job.bind fun j => findOffer j counted with
      | some o => removeOffer .completed true o counted
      | none => counted
    Answered (.clear tag []) s (okReply 0x05 tag (.recordNumber kept.1))
      (askStatus { completed with
        meter := { completed.meter with state := .forHire, trip := none }
        vehicle := { s.dev.vehicle with
          fault := false
          phaseErrors := if s.dev.vehicle.fault then emptyWindow else s.dev.vehicle.phaseErrors } }))

/-- ADD_EXTRA in HIRED and STOPPED: the index judged, the supplement's amount added, the extras held at 99,999 with
EXTRAS_CAPPED; the fare, the accumulator and the window stay as they were. -/
def Obligations.ExtrasAreAdded : Prop :=
  ∀ (s : State) (tag i : Byte), LinkReady s.dev → SignTrue s.dev → tag ≠ 0 →
    s.dev.meter.state = .hired ∨ s.dev.meter.state = .stopped → ∀ t ∈ s.dev.meter.trip, ∀ set ∈ s.dev.tariff.inForce,
    (7 < i.toNat → Reads (.addExtra tag [i]) s (refusal 0x07 tag .outOfRange))
    ∧ (i.toNat ≤ 7 → place set.supplements i.toNat = none → Reads (.addExtra tag [i]) s (refusal 0x07 tag .notFound))
    ∧ (i.toNat ≤ 7 → ∀ p ∈ place set.supplements i.toNat,
        Answered (.addExtra tag [i]) s (okReply 0x07 tag (.extras (min 99999 (t.extras + p.amount))))
          { s.dev with meter := { s.dev.meter with trip := some { t with
              extras := min 99999 (t.extras + p.amount)
              flags := { t.flags with
                extrasCapped := t.flags.extrasCapped || decide (99999 < t.extras + p.amount) } } } })

/-- The accrual of one tick and the evaluation that meets it. In NORMAL (R32 to R35): with no pending tariff and room below the cap, every whole step in the
accumulator is charged and the remainder stays. A step past 999,999 holds the fare there and sets FARE_CAPPED. A pending
tariff is installed at the first step. In INITIAL the phase ends with no step charged (R30, R31). A fixed-price and a
capped trip accrue nothing (R29). A schedule evaluation replaces the scheduled tariff; in HIRED a number that is another than
the one held sets or clears the pending tariff, never on a fixed-price or a capped trip (R9, R34, R70), and sets nothing where
it names the tariff that the tick taken before it replaced (R36; how long it counts as met by that tick is log 41). -/
def Obligations.FareAccrues : Prop :=
  (∀ (x : Tariff) (z : Derived) (p : Nat) (t : Trip), 0 < z.theta → 0 < x.stepAmount → t.fare ≤ 999999 →
    let grown := t.accumulator + (if x.mode = .s then max (p * z.nt) z.np else p * z.nt + z.np)
    let begun := t.accumulator + (if x.mode = .s then max (p * z.nt0) z.np0 else p * z.nt0 + z.np0)
    (t.fixedPrice.isSome = true ∨ t.flags.fareCapped = true → accrue x z p t = t)
    ∧ (t.fixedPrice = none → t.flags.fareCapped = false → t.phase = .initial →
        accrue x z p t =
          if begun < z.theta0 then { t with accumulator := begun }
          else match t.pendingTariff with
            | none => { t with phase := .normal, accumulator := 0 }
            | some n => { t with
                phase := .normal, accumulator := 0, tariff := n, pendingTariff := none
                used := ⟨t.used.one || n == 1, t.used.two || n == 2, t.used.three || n == 3, t.used.four || n == 4⟩ })
    ∧ (t.fixedPrice = none → t.flags.fareCapped = false → t.phase = .normal → grown < z.theta →
        accrue x z p t = { t with accumulator := grown })
    ∧ (t.fixedPrice = none → t.flags.fareCapped = false → t.phase = .normal → t.pendingTariff = none →
        t.fare + x.stepAmount * (grown / z.theta) ≤ 999999 →
        accrue x z p t =
          { t with fare := t.fare + x.stepAmount * (grown / z.theta), accumulator := grown % z.theta })
    ∧ (t.fixedPrice = none → t.flags.fareCapped = false → t.phase = .normal → t.pendingTariff = none →
        999999 < t.fare + x.stepAmount * (grown / z.theta) →
        accrue x z p t =
          { t with fare := 999999, accumulator := grown - z.theta * ((999999 - t.fare) / x.stepAmount + 1)
                   flags := { t.flags with fareCapped := true } })
    ∧ (t.fixedPrice = none → t.flags.fareCapped = false → t.phase = .normal → z.theta ≤ grown → ∀ n ∈ t.pendingTariff,
        accrue x z p t =
          if 999999 < t.fare + x.stepAmount then
            { t with fare := 999999, accumulator := grown - z.theta, pendingTariff := none
                     flags := { t.flags with fareCapped := true } }
          else { t with
            fare := t.fare + x.stepAmount, accumulator := 0, tariff := n, pendingTariff := none
            used := ⟨t.used.one || n == 1, t.used.two || n == 2, t.used.three || n == 3, t.used.four || n == 4⟩ }))
  ∧ (∀ d : Device,
      let r := scheduleResult d
      evaluate d = { d with
        tariff := { d.tariff with scheduled := r }
        meter := if d.meter.state = .hired then { d.meter with
            replaced := none
            trip := d.meter.trip.map fun t =>
              if r = none ∨ r = d.tariff.scheduled ∨ r = d.meter.replaced
                ∨ t.fixedPrice.isSome = true ∨ t.flags.fareCapped = true then t
              else { t with pendingTariff := if r = some t.tariff then none else r } }
          else d.meter })

/-! ### Operations that several commands share -/

/-- What the Uplink Queue answers an owner's request (R98 to R101), and to whom an entry that leaves a lawful queue gives its
room: to an owed STATUS, else to an owed accounting entry, else to the first pending receipt; with nothing owed the entry
alone is gone, with the flight and the planned slot it held (R102, R103, R156). -/
def Obligations.QueueTakesAndGivesRoom : Prop :=
  (∀ (m : Msg) (d : Device),
    let es := d.uplink.entries
    let added (m : Msg) : Device := { d with uplink := { d.uplink with
      entries := es ++ [⟨m, d.uplink.nextOrder, d.uplink.nextSerial, none, 0, .waiting, false, .none⟩]
      nextOrder := if d.uplink.nextOrder < 65535 then d.uplink.nextOrder + 1 else 0
      nextSerial := d.uplink.nextSerial + 1 } }
    let limited : Bool :=
      (m.record.isSome && es.any fun e => e.msg.record.isSome)
        || (m.job.isSome && es.any fun e => e.msg.job == m.job)
        || (m.isText && decide (2 ≤ es.countP fun e => e.msg.isText))
    d.uplink.nextOrder ≤ 65535 →
    (m = .status → (es.any fun e => e.msg == .status) = true ∨ d.uplink.statusOwed = true → ask m d = (.satisfied, d))
    ∧ (m ≠ .status → limited = true → ask m d = (.limit, d))
    ∧ (m ≠ .status → limited = false → 16 ≤ es.length → ask m d = (.full, d))
    ∧ (m ≠ .status → limited = false → es.length < 16 → ask m d = (.added, added m))
    ∧ (m = .status → (es.any fun e => e.msg == .status) = false → d.uplink.statusOwed = false →
        ask m d = if 16 ≤ es.length then (.satisfied, { d with uplink := { d.uplink with statusOwed := true } })
          else (.added, added .status))
    ∧ askStatus d = (ask .status d).2
    ∧ askUnmetered d = askStatus { d with uplink := { d.uplink with unmeteredOwed := true } }
    ∧ ((es.any fun e => e.msg.record.isSome) = true ∨ (d.store.records.all fun r => r.mark != .waiting) = true →
        makeAccounting d = d)
    ∧ ((es.any fun e => e.msg.record.isSome) = false → ∀ r ∈ d.store.records.find? (fun r => r.mark == .waiting),
        makeAccounting d =
          if 16 ≤ es.length then { d with uplink := { d.uplink with accountingOwed := true } }
          else added (match r.body with
            | .trip _ => .tripRecord r.number
            | .shift _ => .shiftRecord r.number)))
  ∧ (∀ (d : Device), Lawful d → ∀ e ∈ d.uplink.entries,
    let rest := d.uplink.entries.filter fun x => x.serial != e.serial
    let made (m : Msg) : Entry := ⟨m, d.uplink.nextOrder, d.uplink.nextSerial, none, 0, .waiting, false, .none⟩
    let left := dropEntry e.serial d
    left.uplink.inFlight = (d.uplink.inFlight.filter fun f => f.serial != e.serial)
    ∧ left.uplink.plan = (d.uplink.plan.map fun p =>
        { p with contention := p.contention.filter fun c => c.2 != .entry e.serial })
    ∧ (d.uplink.statusOwed = true →
        left.uplink.entries = rest ++ [made .status] ∧ left.uplink.statusOwed = false
          ∧ left.uplink.accountingOwed = d.uplink.accountingOwed ∧ left.mail = d.mail ∧ left.store = d.store)
    ∧ (d.uplink.statusOwed = false → d.uplink.accountingOwed = true → ∀ r ∈ oldestWaiting d,
        left.uplink.entries = rest ++ [made (recordMsg r)] ∧ left.uplink.accountingOwed = false ∧ left.mail = d.mail
          ∧ left.store = d.store)
    ∧ (d.uplink.statusOwed = false → d.uplink.accountingOwed = false →
        ∀ m ∈ d.mail.mail.find? (fun m => m.receipt == .pending),
        left.uplink.entries = rest ++ [made (.readReceipt m.number)]
          ∧ left.mail = { d.mail with mail := d.mail.mail.map fun x =>
              if x.number = m.number then { x with receipt := .queued } else x })
    ∧ (d.uplink.statusOwed = false → d.uplink.accountingOwed = false →
        (d.mail.mail.all fun m => m.receipt != .pending) = true →
        left = { d with uplink := { d.uplink with
          entries := rest
          inFlight := d.uplink.inFlight.filter fun f => f.serial != e.serial
          plan := d.uplink.plan.map fun p =>
            { p with contention := p.contention.filter fun c => c.2 != .entry e.serial } } }))

/-- The Trip Store's append (R20, R22): the next number and the last place, marked WAITING; at a full store the oldest
record not in flight goes first, counted as lost with RECORD_DISPLACED, and with it the accounting entry that refers to
it; once the numbers have all been used the new record is the one lost, under number 0. -/
def Obligations.RecordsAreAppended : Prop :=
  ∀ (d : Device) (body : RecordBody), Lawful d →
    let lost : Lifetime :=
      { d.tariff.lifetime with recordsLost := min 65535 (d.tariff.lifetime.recordsLost + 1) }
    let room := makeRoom d
    (d.store.next ≤ 4294967295 →
      storeRecord body d = (d.store.next, makeAccounting { d with store :=
        { records := d.store.records ++ [⟨d.store.next, body, .waiting⟩], next := d.store.next + 1 } }))
    ∧ (4294967295 < d.store.next →
        storeRecord body d = (0, d)
        ∧ room = { d with
            tariff := { d.tariff with lifetime := lost }
            link := { d.link with sticky := { d.link.sticky with recordDisplaced := true } } })
    ∧ (d.store.next ≤ 4294967295 → d.store.records.length < 32 → room = d)
    ∧ (d.store.next ≤ 4294967295 → d.store.records.length = 32 →
        ∀ r ∈ d.store.records.find? (fun r => r.mark != .inFlight),
        room.store = { d.store with records := d.store.records.filter fun x => x.number != r.number }
        ∧ room.store.records.length = 31
        ∧ room.tariff = { d.tariff with lifetime := lost }
        ∧ room.link = { d.link with sticky := { d.link.sticky with recordDisplaced := true } }
        ∧ (room.uplink.entries.all fun e => e.msg.record != some r.number) = true
        ∧ ((d.uplink.entries.all fun e => e.msg.record != some r.number) = true →
            room.uplink = d.uplink ∧ room.mail = d.mail)
        ∧ room = { d with store := room.store, tariff := room.tariff, link := room.link, uplink := room.uplink
                          mail := room.mail })
    ∧ (d.store.records.length = 32 → (d.store.records.find? fun r => r.mark != .inFlight).isSome = true)

/-- The accounting records and the uplink blocks as bytes, most significant byte first, an absent field 00h (R101, R202; 12).
The 56 bytes of a trip record and of a shift record, field by field. The 36 bytes of every uplink block: address, kind,
sequence or FFh, index, count, 28 bytes of content, CRC; the content of a TEXT is its outbound number, its characters and
zeros, that of a record the 28 bytes handed to the block, and that of another kind begins with the cab identity where the
block carries one. A record goes in its two halves, and a text 16 characters to a block. The content bytes that the manual
lays out nowhere are free (log 56); under address 0 a text and a record keep their layout, the model's choice (log 50). -/
def Obligations.RecordsAndBlocksHaveTheirBytes : Prop :=
  (∀ (n : Nat) (r : TripRecord) (m : Mark),
    let bs := Stored.bytes ⟨n, .trip r, m⟩
    let flag (b : Bool) (x : Nat) : Nat := if b then x else 0
    let timed (start : Nat) (t : Option Reading) : Prop :=
      field bs start 2 = (t.map Reading.day).getD 0 % 65536
        ∧ field bs (start + 2) 3 = (t.map Reading.second).getD 0 % 16777216
    let placed (start : Nat) (p : Option Position) : Prop :=
      (field bs start 4 : Int) = (p.map Position.latitude).getD 0 % 4294967296
        ∧ (field bs (start + 4) 4 : Int) = (p.map Position.longitude).getD 0 % 4294967296
    bs.length = 56 ∧ field bs 0 4 = n % 4294967296
    ∧ byteAt bs 4 = 16 * (flag r.used.one 1 + flag r.used.two 2 + flag r.used.three 4 + flag r.used.four 8) + 1
    ∧ byteAt bs 5 = flag r.job.isSome 1 + flag r.start.isSome 2 + flag r.stop.isSome 4
        + flag r.startPosition.isSome 8 + flag r.endPosition.isSome 16 + 32
    ∧ byteAt bs 6 = flag r.flags.fareCapped 1 + flag r.flags.extrasCapped 2 + flag r.flags.sensorFault 4
        + flag r.flags.distanceImplausible 8 + flag r.flags.powerInterrupted 16 + flag r.flags.fixedPrice 32
        + flag r.flags.jobCancelled 64
    ∧ field bs 7 4 = r.trip % 4294967296 ∧ field bs 11 3 = r.job.getD 0 % 16777216
    ∧ timed 14 r.start ∧ timed 19 r.stop ∧ placed 24 r.startPosition ∧ placed 32 r.endPosition
    ∧ field bs 40 2 = r.revision % 65536 ∧ field bs 42 3 = r.fare % 16777216 ∧ field bs 45 3 = r.extras % 16777216
    ∧ field bs 48 4 = r.hiredMetres % 4294967296 ∧ field bs 52 4 = r.hiredSeconds % 4294967296)
  ∧ (∀ (n : Nat) (r : ShiftRecord) (m : Mark),
    let bs := Stored.bytes ⟨n, .shift r, m⟩
    let flag (b : Bool) (x : Nat) : Nat := if b then x else 0
    let timed (start : Nat) (t : Option Reading) : Prop :=
      field bs start 2 = (t.map Reading.day).getD 0 % 65536
        ∧ field bs (start + 2) 3 = (t.map Reading.second).getD 0 % 16777216
    bs.length = 56 ∧ field bs 0 4 = n % 4294967296 ∧ byteAt bs 4 = 2
    ∧ byteAt bs 5 = flag r.opened.isSome 2 + flag r.closed.isSome 4 ∧ byteAt bs 6 = 0
    ∧ field bs 7 2 = r.shift % 65536 ∧ field bs 9 2 = r.trips % 65536 ∧ timed 11 r.opened ∧ timed 16 r.closed
    ∧ field bs 21 4 = r.totalMetres % 4294967296 ∧ field bs 25 4 = r.hiredMetres % 4294967296
    ∧ field bs 29 4 = r.fareTotal % 4294967296 ∧ field bs 33 4 = r.extrasTotal % 4294967296
    ∧ byteAt bs 37 = r.unmetered % 256 ∧ byteAt bs 38 = r.emergencies % 256
    ∧ field bs 39 2 = r.recordsLost % 65536 ∧ bs.drop 41 = List.replicate 15 0)
  ∧ (∀ b : UplinkBlock,
      let bs := b.bytes
      bs.length = 36 ∧ field bs 0 2 = b.address % 65536
      ∧ byteAt bs 2 = (match b.content with
        | .logon _ => 0x81
        | .resume _ _ => 0x82
        | .slotRequest _ => 0x83
        | .emergency _ => 0x84
        | .cancel _ _ => 0x85
        | .track _ => 0x86
        | .bid _ => 0x88
        | .decline _ _ => 0x89
        | .noshow _ => 0x8A
        | .tripRecord _ => 0x8B
        | .shiftRecord _ => 0x8C
        | .status _ => 0x8D
        | .text _ _ => 0x8E
        | .cannedReply _ _ => 0x8F
        | .readReceipt _ => 0x90)
      ∧ byteAt bs 3 = (b.seq.getD 255) % 256 ∧ byteAt bs 4 = b.index % 256 ∧ byteAt bs 5 = b.count % 256
      ∧ field bs 34 2 = crc16 (bs.take 34)
      ∧ (match b.content with
        | .text n chars => chars.length ≤ 16 →
            (bs.drop 6).take 28 = BitVec.ofNat 8 n :: (chars ++ List.replicate (27 - chars.length) 0)
        | .tripRecord c => c.length = 28 → (bs.drop 6).take 28 = c
        | .shiftRecord c => c.length = 28 → (bs.drop 6).take 28 = c
        | _ => ∀ i ∈ b.identity, field bs 6 4 = i % 4294967296))
  ∧ (∀ d : Device, Lawful d → ∀ r ∈ d.store.records, ∀ k : Nat,
      messageContent (recordMsg r) k d = (match r.body with
        | .trip _ => .tripRecord ((r.bytes.drop (28 * k)).take 28)
        | .shift _ => .shiftRecord ((r.bytes.drop (28 * k)).take 28)))
  ∧ (∀ (d : Device) (n k : Nat) (chars : List Byte),
      messageContent (.text n chars) k d = .text n ((chars.drop (16 * k)).take 16))

/-- A removal from the Offer Table (R124, R125): the undelivered bid leaves the queue, the job goes to the front of the
removal history of six, the FORWARD entry becomes ACTIVE when the ACTIVE one went, and its JOB_PROMOTED notice comes before
OFFER_REMOVED, which is the model's order (log 12). The release of the booking (R146). -/
def Obligations.OffersAreRemoved : Prop :=
  ∀ (d : Device) (reason : RemovalReason) (tell : Bool) (cause : ZoneCause), Lawful d → ∀ o ∈ d.offers.entries,
    let gone := removeOffer reason tell o d
    let heir := if o.isActive then d.offers.entries.find? Offer.isForward else none
    gone.offers = { d.offers with
      entries := (d.offers.entries.filter fun x => x.job != o.job).map fun x =>
        if o.isActive && x.isForward then { x with state := .active false } else x
      history := (o.job :: d.offers.history).take 6 }
    ∧ (gone.uplink.entries.all fun e => e.msg != .bid o.job) = true
    ∧ (o.bidUndelivered = false → gone.uplink = d.uplink ∧ gone.mail = d.mail)
    ∧ (d.link.notices.length + 2 ≤ 16 →
        gone.link = { d.link with notices := d.link.notices
          ++ (heir.map fun x => Notice.jobPromoted x.job).toList
          ++ (if tell then [Notice.offerRemoved o.job reason none] else []) })
    ∧ gone = { d with offers := gone.offers, uplink := gone.uplink, mail := gone.mail, link := gone.link }
    ∧ (d.offers.booking = .none → releaseBooking cause tell d = d)
    ∧ (d.offers.booking ≠ .none →
        releaseBooking cause tell d = notifyIf tell (.zone .none cause)
          (askStatus { d with offers := { d.offers with booking := .none, answer := none } }))

/-! ### Tariff Store (04) -/

/-- TARIFF_BEGIN copies the set in force, or an empty one, into the staging set, with RESTARTED when a load was in
progress; it is refused with LOCKED, WRONG_STATE and NOT_PERMITTED in that order. TARIFF_ABANDON discards the staging set
and nothing else; without a load it is refused with SEQUENCE (R60, R67). TARIFF_ITEM for the schedule (R62, R64): BAND_ADD
places a band in its order among at most 12 or refuses it, in the order of its checks; BAND_REMOVE takes away the bands of a
start minute and a day; SCHEDULE_CLEAR takes them all. A schedule that was lawful stays lawful, and a band added is the one
band more. That a missing load and the full revision are judged before the length is the model's reading (log 7). -/
def Obligations.LoadsAndScheduleAreStaged : Prop :=
  (∀ (s : State) (tag : Byte), LinkReady s.dev → SignTrue s.dev → tag ≠ 0 →
    (s.dev.tariff.switch.isOpen = false → Reads (.tariffBegin tag []) s (refusal 0x10 tag .locked))
    ∧ (s.dev.tariff.switch.isOpen = true → s.dev.meter.state ≠ .uncalibrated → s.dev.meter.state ≠ .offDuty →
        Reads (.tariffBegin tag []) s (refusal 0x10 tag .wrongState))
    ∧ (s.dev.tariff.switch.isOpen = true → s.dev.meter.state = .uncalibrated ∨ s.dev.meter.state = .offDuty →
        if 65535 ≤ s.dev.tariff.revision then Reads (.tariffBegin tag []) s (refusal 0x10 tag .notPermitted)
        else
          Answered (.tariffBegin tag []) s
            ⟨0x10, tag, .ok, if s.dev.tariff.load.isSome then .restarted else .none, .revision s.dev.tariff.revision⟩
            { s.dev with tariff := { s.dev.tariff with load := some (match s.dev.tariff.inForce with
              | none =>
                { k := none, tariffs := [none, none, none, none], default := none, schedule := []
                  supplements := [none, none, none, none, none, none, none, none], decimals := 0, identity := none }
              | some set =>
                { k := some set.k, tariffs := set.tariffs, default := some set.default, schedule := set.schedule
                  supplements := set.supplements, decimals := set.decimals, identity := some set.identity }) } })
    ∧ (s.dev.tariff.load.isSome = true →
        Answered (.tariffAbandon tag []) s (okReply 0x13 tag .none)
          { s.dev with tariff := { s.dev.tariff with load := none } })
    ∧ (s.dev.tariff.load = none → Reads (.tariffAbandon tag []) s (refusal 0x13 tag .sequence)))
  ∧ (∀ (s : State) (tag : Byte) (fields : List Byte), LinkReady s.dev → SignTrue s.dev → tag ≠ 0 →
    let refused (r : Result) (c : Instr) : Prop := Reads c s (refusal 0x11 tag r)
    let b : Band := ⟨BitVec.ofNat 8 (byteAt fields 0), field fields 1 2, byteAt fields 3⟩
    (s.dev.tariff.load = none →
        refused .sequence (.bandAdd tag fields) ∧ refused .sequence (.bandRemove tag fields)
          ∧ refused .sequence (.scheduleClear tag fields))
    ∧ (∀ st ∈ s.dev.tariff.load,
        if fields.length ≠ 4 ∨ b.days = 0 then refused .malformed (.bandAdd tag fields)
        else if 1439 < b.start ∨ b.tariff < 1 ∨ 4 < b.tariff then refused .outOfRange (.bandAdd tag fields)
        else if (st.schedule.any fun c => c.start == b.start && (c.days &&& b.days) != 0) = true then
          refused .malformed (.bandAdd tag fields)
        else if 12 ≤ st.schedule.length then refused .outOfRange (.bandAdd tag fields)
        else
          Stages (.bandAdd tag fields) tag s { st with schedule := insertBand b st.schedule }
          ∧ (insertBand b st.schedule).Perm (b :: st.schedule)
          ∧ (ScheduleLaw st.schedule → ScheduleLaw (insertBand b st.schedule)))
    ∧ (∀ st ∈ s.dev.tariff.load,
        if fields.length ≠ 3 ∨ 7 < byteAt fields 2 then refused .malformed (.bandRemove tag fields)
        else if 1439 < field fields 0 2 then refused .outOfRange (.bandRemove tag fields)
        else
          Stages (.bandRemove tag fields) tag s
            { st with schedule := st.schedule.filter fun c =>
                c.start != field fields 0 2 || !c.days.getLsbD (byteAt fields 2) })
    ∧ (∀ st ∈ s.dev.tariff.load,
        if fields.length ≠ 0 then refused .malformed (.scheduleClear tag fields)
        else Stages (.scheduleClear tag fields) tag s { st with schedule := [] }))

/-- TARIFF_ITEM for the items that are not the schedule: with no load it is refused with SEQUENCE, before its length is judged,
which is the model's reading (log 7); a body length that the item does not have is MALFORMED; a value in range enters the
staging set and nothing else changes; any other is refused with OUT_OF_RANGE and the staging set stays (R62, R63). -/
def Obligations.TariffItemsAreStaged : Prop :=
  ∀ (s : State) (tag : Byte) (fields : List Byte), LinkReady s.dev → SignTrue s.dev → tag ≠ 0 →
    let refused (r : Result) (c : Instr) : Prop := Reads c s (refusal 0x11 tag r)
    let n := byteAt fields 0
    let x : Tariff :=
      { mode := if byteAt fields 1 = 1 then .s else .d, flagFall := field fields 2 3, d0 := field fields 5 2
        t0 := field fields 7 2, stepAmount := field fields 9 2, ds := field fields 11 2, ts := field fields 13 2 }
    (s.dev.tariff.load = none → ∀ c ∈ [Instr.tariffItemSetCalibration tag fields, .tariffItemSetTariff tag fields,
        .tariffItemRemoveTariff tag fields, .tariffItemSetDefault tag fields, .tariffItemSetSupplement tag fields,
        .tariffItemRemoveSupplement tag fields, .tariffItemSetDecimals tag fields, .tariffItemSetIdentity tag fields],
        refused .sequence c)
    ∧ (∀ st ∈ s.dev.tariff.load,
        if fields.length ≠ 2 then refused .malformed (.tariffItemSetCalibration tag fields)
        else if 1000 ≤ field fields 0 2 ∧ field fields 0 2 ≤ 60000 then
          Stages (.tariffItemSetCalibration tag fields) tag s { st with k := some (field fields 0 2) }
        else refused .outOfRange (.tariffItemSetCalibration tag fields))
    ∧ (∀ st ∈ s.dev.tariff.load,
        if fields.length ≠ 15 then refused .malformed (.tariffItemSetTariff tag fields)
        else if 1 ≤ n ∧ n ≤ 4 ∧ 1 ≤ byteAt fields 1 ∧ byteAt fields 1 ≤ 2 ∧ x.flagFall ≤ 99999 ∧ x.t0 ≤ 3600
            ∧ 1 ≤ x.stepAmount ∧ x.stepAmount ≤ 9999 ∧ 1 ≤ x.ds ∧ x.ds ≤ 5000 ∧ 1 ≤ x.ts ∧ x.ts ≤ 3600
            ∧ (x.d0 = 0 ↔ x.t0 = 0) then
          Stages (.tariffItemSetTariff tag fields) tag s { st with tariffs := st.tariffs.set (n - 1) (some x) }
        else refused .outOfRange (.tariffItemSetTariff tag fields))
    ∧ (∀ st ∈ s.dev.tariff.load,
        if fields.length ≠ 1 then refused .malformed (.tariffItemRemoveTariff tag fields)
        else if 1 ≤ n ∧ n ≤ 4 then
          Stages (.tariffItemRemoveTariff tag fields) tag s { st with tariffs := st.tariffs.set (n - 1) none }
        else refused .outOfRange (.tariffItemRemoveTariff tag fields))
    ∧ (∀ st ∈ s.dev.tariff.load,
        if fields.length ≠ 1 then refused .malformed (.tariffItemSetDefault tag fields)
        else if 1 ≤ n ∧ n ≤ 4 then Stages (.tariffItemSetDefault tag fields) tag s { st with default := some n }
        else refused .outOfRange (.tariffItemSetDefault tag fields))
    ∧ (∀ st ∈ s.dev.tariff.load,
        if fields.length ≠ 4 then refused .malformed (.tariffItemSetSupplement tag fields)
        else if n ≤ 7 ∧ 1 ≤ field fields 1 2 ∧ field fields 1 2 ≤ 9999 ∧ 1 ≤ byteAt fields 3 then
          Stages (.tariffItemSetSupplement tag fields) tag s
            { st with supplements := st.supplements.set n (some ⟨field fields 1 2, byteAt fields 3⟩) }
        else refused .outOfRange (.tariffItemSetSupplement tag fields))
    ∧ (∀ st ∈ s.dev.tariff.load,
        if fields.length ≠ 1 then refused .malformed (.tariffItemRemoveSupplement tag fields)
        else if n ≤ 7 then
          Stages (.tariffItemRemoveSupplement tag fields) tag s { st with supplements := st.supplements.set n none }
        else refused .outOfRange (.tariffItemRemoveSupplement tag fields))
    ∧ (∀ st ∈ s.dev.tariff.load,
        if fields.length ≠ 1 then refused .malformed (.tariffItemSetDecimals tag fields)
        else if n ≤ 3 then Stages (.tariffItemSetDecimals tag fields) tag s { st with decimals := n }
        else refused .outOfRange (.tariffItemSetDecimals tag fields))
    ∧ (∀ st ∈ s.dev.tariff.load,
        if fields.length ≠ 6 then refused .malformed (.tariffItemSetIdentity tag fields)
        else if 1 ≤ field fields 0 4 ∧ 1 ≤ field fields 4 2 then
          Stages (.tariffItemSetIdentity tag fields) tag s
            { st with identity := some ⟨field fields 0 4, field fields 4 2⟩ }
        else refused .outOfRange (.tariffItemSetIdentity tag fields))

/-- TARIFF_COMMIT (R2, R65, R66). Without a load: SEQUENCE. A staging set that lacks an item, or that fails a whole-set
check, is refused with the item named, and stays. A set that passes is in force at once with its derived sizes and one
revision more, the lifetime residues start again at 0, the schedule is evaluated, and an UNCALIBRATED meter goes to
OFF_DUTY. When the identity is not the one the cab logged on with, as noted when its logon record was made (log 37; a set taken
while BARRED is no logon, log 42), the registration is dropped (R96), the REGISTRATION notice last (log 26). -/
def Obligations.CommitInstallsTheSet : Prop :=
  ∀ (s : State) (tag : Byte), LinkReady s.dev → Lawful s.dev → tag ≠ 0 →
    let refused (r : Result) (f : CommitFault) : Prop := Reads (.tariffCommit tag []) s ⟨0x12, tag, r, .none, .commitFault f⟩
    (s.dev.tariff.load = none → Reads (.tariffCommit tag []) s (refusal 0x12 tag .sequence))
    ∧ (∀ st ∈ s.dev.tariff.load, st.k = none → refused .incomplete .calibration)
    ∧ (∀ st ∈ s.dev.tariff.load, st.k.isSome = true → st.identity = none → refused .incomplete .identity)
    ∧ (∀ st ∈ s.dev.tariff.load, st.k.isSome = true → st.identity.isSome = true →
        (st.default.all fun n => (tariffAt st.tariffs n).isNone) = true → refused .incomplete .default)
    ∧ (∀ st ∈ s.dev.tariff.load, ∀ k ∈ st.k, ∀ i ∈ st.identity, ∀ n ∈ st.default, (tariffAt st.tariffs n).isSome = true →
        (∀ j ∈ st.schedule.findIdx? (fun b => (tariffAt st.tariffs b.tariff).isNone), refused .incomplete (.band j))
        ∧ ((st.schedule.all fun b => (tariffAt st.tariffs b.tariff).isSome) = true →
            (∀ j ∈ (List.range 8).find? (fun j => (List.range j).any fun i =>
                (place st.supplements i).isSome
                  && (place st.supplements i).map Supplement.label == (place st.supplements j).map Supplement.label),
              refused .incomplete (.supplement j))
            ∧ (((List.range 8).filterMap fun j => (place st.supplements j).map Supplement.label).Nodup →
                (∀ f ∈ firstStepFault k st.tariffs, refused .stepRange f)
                ∧ (firstStepFault k st.tariffs = none →
                    let set : TariffSet :=
                      { k, tariffs := st.tariffs, default := n, schedule := st.schedule, supplements := st.supplements
                        decimals := st.decimals, identity := i }
                    let installed : Device := { s.dev with
                      tariff := { s.dev.tariff with
                        inForce := some set, derived := st.tariffs.map fun t => t.map (derive k)
                        revision := s.dev.tariff.revision + 1, totalResidue := 0, hiredResidue := 0, load := none } }
                    let told : Device :=
                      if s.dev.meter.state = .uncalibrated then
                        askStatus { installed with
                          meter := { s.dev.meter with state := .offDuty }
                          vehicle := { s.dev.vehicle with
                            fault := false
                            phaseErrors := if s.dev.vehicle.fault then emptyWindow else s.dev.vehicle.phaseErrors } }
                      else installed
                    let moved : Device :=
                      if s.dev.channel.loggedOnAs = none ∨ s.dev.channel.loggedOnAs = some i
                          ∨ s.dev.channel.reg ∉ [RegState.logonWait, .registered, .lost] then told
                      else
                        let out := forfeit told
                        notify (.registration .searching none none .identity)
                          { out with channel := { out.channel with
                            reg := .searching, address := none, network := none, logon := none, lostPeriod := none
                            holdTimer := 0 } }
                    Answered (.tariffCommit tag []) s (okReply 0x12 tag (.revision (s.dev.tariff.revision + 1)))
                      { moved with tariff := { moved.tariff with scheduled := scheduleResult moved } }))))

/-- The reads of the set and of the configuration change nothing. TARIFF_READ judges its source, then its selector with
the index, then whether the item is there. GET_CONFIG gives one item or all seven, and refuses an unknown one. IDENTIFY
gives the part revision, the identity in force and the tariff revision (R68, R197, R198). The decimals of a staging set
begun with no set in force read as 0, present: the model's reading (log 35). -/
def Obligations.SetAndItemsAreRead : Prop :=
  ∀ (s : State) (tag a b c : Byte), LinkReady s.dev → SignTrue s.dev → tag ≠ 0 →
    let chosen := if a.toNat = 1 then s.dev.tariff.inForce.map TariffSet.toStaging else s.dev.tariff.load
    let j := c.toNat
    let inRange : Bool := match b.toNat with
      | 2 => decide (1 ≤ j ∧ j ≤ 4)
      | 4 => decide (j ≤ 11)
      | 5 => decide (j ≤ 7)
      | n => decide (n ≤ 7)
    let item (st : Staging) : Option TariffItem := match b.toNat with
      | 0 => some (.summary s.dev.tariff.revision (st.tariffs.map Option.isSome) (st.supplements.map Option.isSome) st.k
          st.default st.schedule.length st.decimals s.dev.tariff.load.isSome)
      | 1 => st.k.map .calibration
      | 2 => (place st.tariffs (j - 1)).map fun t => .tariff t
          (if a.toNat = 1 then (place s.dev.tariff.derived (j - 1)).map fun z => (z.np, z.nt, z.np0, z.nt0) else none)
      | 3 => st.default.map .default
      | 4 => st.schedule[j]?.map .band
      | 5 => (place st.supplements j).map .supplement
      | 6 => some (.decimals st.decimals)
      | _ => st.identity.map .identity
    let x := s.dev.items
    let items : List Item := [.arbitration x.arbitration, .covert x.covert, .trackInterval x.trackInterval,
      .acceptance x.acceptance, .sensorMode x.sensorMode, .occupancyCheck x.occupancyCheck, .polarity x.polarity]
    (a.toNat ≠ 1 → a.toNat ≠ 2 → Reads (.tariffRead tag [a, b, c]) s (refusal 0x14 tag .malformed))
    ∧ (a.toNat = 2 → s.dev.tariff.load = none → Reads (.tariffRead tag [a, b, c]) s (refusal 0x14 tag .sequence))
    ∧ (a.toNat = 1 ∨ a.toNat = 2 ∧ s.dev.tariff.load.isSome = true →
        Reads (.tariffRead tag [a, b, c]) s
          (if inRange = false then refusal 0x14 tag .outOfRange
           else match chosen.bind item with
             | some i => okReply 0x14 tag (.tariffItem i)
             | none => refusal 0x14 tag .notFound))
    ∧ Reads (.getConfig tag [a]) s
        (if a.toNat = 0 then okReply 0x3A tag (.items items)
         else match items[a.toNat - 1]? with
           | some i => okReply 0x3A tag (.items [i])
           | none => refusal 0x3A tag .malformed)
    ∧ Reads (.identify tag []) s
        (okReply 0x3B tag (.identify Config.partRevision ((s.dev.tariff.inForce.map TariffSet.identity).getD ⟨0, 0⟩)
          s.dev.tariff.revision))

/-! ### Clock and position (03) -/

/-- CLOCK_SET (R52): refused with LOCKED while the switch is LOCKED and the clock SET, then with OUT_OF_RANGE; taken, the
clock is SET to the reading with tick 0, the holiday flag is kept on the same day alone, and the schedule is evaluated.
POSITION (R56): the quality judged first, then the ranges; 2D and 3D replace the fix with age 0, NONE empties it. -/
def Obligations.ClockAndPositionAreSet : Prop :=
  ∀ (s : State) (tag : Byte) (body : List Byte), LinkReady s.dev → SignTrue s.dev → tag ≠ 0 →
    let day := field body 0 2
    let second := field body 2 3
    let now := s.dev.vehicle.calendar.time
    let told (r : Result) (t : Option Reading) : Reply := ⟨0x18, tag, r, .none, .clock t⟩
    let set : Device := { s.dev with vehicle := { s.dev.vehicle with calendar :=
      ⟨some ⟨day, second, 0⟩, s.dev.vehicle.calendar.holiday && now.any fun t => t.day == day⟩ } }
    let latitude : Int := if field body 2 4 < 2147483648 then field body 2 4 else (field body 2 4 : Int) - 4294967296
    let longitude : Int := if field body 6 4 < 2147483648 then field body 6 4 else (field body 6 4 : Int) - 4294967296
    let timed := (byteAt body 0).testBit 0
    let fixDay := field body 10 2
    let fixSecond := field body 12 3
    let held (q : Quality) : Fix :=
      ⟨latitude, longitude, q, if timed then some ⟨fixDay, fixSecond⟩ else none, 0⟩
    let inRange : Prop := -9000000 ≤ latitude ∧ latitude ≤ 9000000 ∧ -18000000 ≤ longitude ∧ longitude ≤ 18000000
      ∧ (timed = true → fixDay ≤ 65535 ∧ fixSecond ≤ 86399)
    let placed (f : Option Fix) : Prop :=
      Answered (.position tag body) s (okReply 0x19 tag .none) { s.dev with vehicle := { s.dev.vehicle with fix := f } }
    (body.length = 5 → s.dev.tariff.switch.isOpen = false → now.isSome = true →
        Reads (.clockSet tag body) s (told .locked (reading s.dev)))
    ∧ (body.length = 5 → s.dev.tariff.switch.isOpen = true ∨ now = none → 86399 < second →
        Reads (.clockSet tag body) s (told .outOfRange (reading s.dev)))
    ∧ (body.length = 5 → s.dev.tariff.switch.isOpen = true ∨ now = none → second ≤ 86399 →
        Answered (.clockSet tag body) s (told .ok (some ⟨day, second⟩)) (evaluate set))
    ∧ (2 ≤ body.length → 2 < byteAt body 1 → Reads (.position tag body) s (refusal 0x19 tag .outOfRange))
    ∧ (body.length = 15 → byteAt body 1 = 0 → placed none)
    ∧ (body.length = 15 → byteAt body 1 = 1 → inRange → placed (some (held .twoD)))
    ∧ (body.length = 15 → byteAt body 1 = 2 → inRange → placed (some (held .threeD)))
    ∧ (body.length = 15 → byteAt body 1 = 1 ∨ byteAt body 1 = 2 → ¬ inRange →
        Reads (.position tag body) s (refusal 0x19 tag .outOfRange))

/-! ### Offer Table (07) -/

/-- ACCEPT, DECLINE and NOSHOW, each in the order of its checks (R130, R131, R137). ACCEPT of an OFFERED entry queues its
BID and makes it BIDDING; DECLINE of an open entry replaces its undelivered BID by a DECLINE and removes it whatever the
queue answers; NOSHOW removes the ACTIVE entry that is not IN_TRIP once the queue has taken the message. -/
def Obligations.DriverAnswersOffers : Prop :=
  ∀ (s : State) (tag : Byte) (body : List Byte), LinkReady s.dev → SignTrue s.dev → tag ≠ 0 → body.length = 3 →
    let job := field body 0 3
    let held := s.dev.offers.entries.find? fun o => o.job == job
    let missing : Result := if s.dev.offers.history.contains job then .tooLate else .notFound
    (job = 0 → Reads (.accept tag body) s (refusal 0x20 tag .outOfRange)
        ∧ Reads (.decline tag body) s (refusal 0x21 tag .outOfRange)
        ∧ Reads (.noshow tag body) s (refusal 0x22 tag .outOfRange))
    ∧ (1 ≤ job → held = none → Reads (.accept tag body) s (refusal 0x20 tag missing)
        ∧ Reads (.decline tag body) s (refusal 0x21 tag missing)
        ∧ Reads (.noshow tag body) s (refusal 0x22 tag .notFound))
    ∧ (1 ≤ job → ∀ o ∈ held, o.isActive = true ∨ o.isForward = true →
        Reads (.accept tag body) s (refusal 0x20 tag .wrongState)
        ∧ Reads (.decline tag body) s (refusal 0x21 tag .wrongState))
    ∧ (1 ≤ job → ∀ o ∈ held, o.isBidding = true → Reads (.accept tag body) s ⟨0x20, tag, .ok, .already, .none⟩)
    ∧ (1 ≤ job → ∀ o ∈ held, o.isOffered = true → (ask (.bid job) s.dev).1 = .added →
        Answered (.accept tag body) s (okReply 0x20 tag .none)
          { (ask (.bid job) s.dev).2 with offers := { s.dev.offers with entries := s.dev.offers.entries.map fun x =>
            if x.job = job then { x with state := .bidding false none } else x } })
    ∧ (1 ≤ job → ∀ o ∈ held, o.isOffered = true → (ask (.bid job) s.dev).1 ≠ .added →
        Reads (.accept tag body) s (refusal 0x20 tag .queueFull))
    ∧ (1 ≤ job → ∀ o ∈ held, o.isOffered = true ∨ o.isBidding = true →
        let freed := if o.bidUndelivered then removeBid job s.dev else s.dev
        Answered (.decline tag body) s
          (okReply 0x21 tag (.declineQueued ((ask (.decline job .driver) freed).1 == .added)))
          (removeOffer .declined false o (ask (.decline job .driver) freed).2))
    ∧ (1 ≤ job → ∀ o ∈ held, o.state ≠ .active false → Reads (.noshow tag body) s (refusal 0x22 tag .wrongState))
    ∧ (1 ≤ job → ∀ o ∈ held, o.state = .active false →
        if (ask (.noshow job) s.dev).1 = .added then
          Answered (.noshow tag body) s (okReply 0x22 tag .none)
            (removeOffer .noshow false o (ask (.noshow job) s.dev).2)
        else Reads (.noshow tag body) s (refusal 0x22 tag .queueFull))

/-- BOOK and UNBOOK (R143, R146): the checks of BOOK in their order; a booking asked for is BOOK_PENDING with a STATUS asked
for, one already held in the zone is ALREADY; UNBOOK releases the booking, or is ALREADY when there is none. -/
def Obligations.BookingFollowsItsRules : Prop :=
  ∀ (s : State) (tag zone : Byte), LinkReady s.dev → SignTrue s.dev → tag ≠ 0 →
    let b := s.dev.offers.booking
    let here : Bool := match b with
      | .none => false
      | .pending z => z == zone.toNat
      | .booked z _ => z == zone.toNat
    (zone.toNat = 0 ∨ 250 < zone.toNat → Reads (.book tag [zone]) s (refusal 0x24 tag .outOfRange))
    ∧ (1 ≤ zone.toNat → zone.toNat ≤ 250 → s.dev.meter.state ≠ .forHire ∨ s.dev.channel.reg ≠ .registered →
        Reads (.book tag [zone]) s (refusal 0x24 tag .wrongState))
    ∧ (1 ≤ zone.toNat → zone.toNat ≤ 250 → s.dev.meter.state = .forHire → s.dev.channel.reg = .registered →
        if s.dev.emergency.state ≠ .quiet then Reads (.book tag [zone]) s (refusal 0x24 tag .notPermitted)
        else if here = true then Reads (.book tag [zone]) s ⟨0x24, tag, .ok, .already, .none⟩
        else Answered (.book tag [zone]) s (okReply 0x24 tag .none)
          (askStatus { s.dev with offers := { s.dev.offers with booking := .pending zone.toNat, answer := none } }))
    ∧ (b = .none → Reads (.unbook tag []) s ⟨0x25, tag, .ok, .already, .none⟩)
    ∧ (b ≠ .none → Answered (.unbook tag []) s (okReply 0x25 tag .none)
        (askStatus { s.dev with offers := { s.dev.offers with booking := .none, answer := none } }))

/-- The lists that change nothing: OFFER_LIST of the table or of one job (R142), MAIL_LIST (R154), SIGN_READ (R184); times in
whole seconds, rounded up. The model's choices: an AWARDED entry is listed with bid delivered no, also where its bid had been
delivered (log 53), and with the window count left at its ACCEPT or its AWARD (log 62); a buffer whose header count has
reached 8 is no longer counted among the partial messages, which is how the model holds its discarding off (log 9); in covert
mode SIGN_READ names the entry the part would show without the call (log 36). -/
def Obligations.ListsAreRead : Prop :=
  ∀ (s : State) (tag : Byte) (body : List Byte), LinkReady s.dev → SignTrue s.dev → tag ≠ 0 →
    let line (o : Offer) : OfferLine :=
      { job := o.job, origin := o.origin, forward := o.forward, pickup := o.pickup
        state := (match o.state with
          | .offered => .offered
          | .bidding _ _ => .bidding
          | _ => .awarded)
        role := if o.isActive then some .active else if o.isForward then some .forward else none
        inTrip := o.state == .active true
        window := (o.count + 9) / 10
        delivered := o.isBidding && !o.bidUndelivered
        deadline := (match o.state with
          | .bidding _ n => n.map fun t => (t + 9) / 10
          | _ => none)
        price := o.price
        detailLength := (o.detail0.getD []).length + (o.detail1.getD []).length + (o.detail2.getD []).length }
    (body.length = 4 → (byteAt body 0).testBit 0 = false →
        Reads (.offerList tag body) s
          (okReply 0x23 tag (.offerList s.dev.offers.booking (s.dev.offers.entries.map line))))
    ∧ (body.length = 4 → (byteAt body 0).testBit 0 = true →
        Reads (.offerList tag body) s
          (if field body 1 3 = 0 then refusal 0x23 tag .outOfRange
           else match s.dev.offers.entries.find? fun o => o.job == field body 1 3 with
             | some o => okReply 0x23 tag
                 (.offerOne (line o) (o.detail0.getD [] ++ o.detail1.getD [] ++ o.detail2.getD []))
             | none => refusal 0x23 tag .notFound))
    ∧ Reads (.mailList tag []) s
        (okReply 0x28 tag (.mailList
          ((s.dev.mail.first.toList ++ s.dev.mail.second.toList).countP fun p => decide (p.headers < 8))
          (s.dev.mail.mail.map fun m =>
            { number := m.number, cls := m.cls, state := m.state, arrival := m.arrival, textLength := m.text.length
              codes := m.codes, receipt := m.receipt, reply := m.reply })))
    ∧ Reads (.signRead tag []) s
        (okReply 0x36 tag (.sign s.dev.sign.table s.dev.sign.blank s.dev.items.polarity
          (if s.dev.items.covert = true then
             (if s.dev.sign.blank then 6 else match s.dev.meter.state with
               | .uncalibrated => 4
               | .offDuty => 0
               | .forHire => if isBooked s.dev.offers.booking then 5 else 1
               | .hired => 2
               | .stopped => 3)
           else s.dev.sign.selected)))

/-! ### Mailbox (08) -/

/-- The driver's mail requests (R155 to R161): MAIL_READ gives the text, makes an UNREAD message READ and owes the receipt
of a PRIORITY one, QUEUED when the queue takes it and PENDING otherwise; MAIL_REPLY answers a READ message with a code it
offers; MAIL_DELETE removes a message whose receipt is not PENDING; SEND_TEXT queues 1 to 160 characters under the next
outbound number. -/
def Obligations.DriverHandlesMail : Prop :=
  ∀ (s : State) (tag : Byte) (body : List Byte), LinkReady s.dev → SignTrue s.dev → MailLaw s.dev → tag ≠ 0 →
    let found := s.dev.mail.mail.find? fun m => m.number == field body 0 2
    let change (d : Device) (f : Mail → Mail) : Device := { d with mail := { d.mail with
      mail := d.mail.mail.map fun m => if m.number = field body 0 2 then f m else m } }
    let receipt := ask (.readReceipt (field body 0 2)) s.dev
    let code := byteAt body 2
    let canned := ask (.cannedReply (field body 0 2) code) s.dev
    let text := ask (.text s.dev.mail.outbound body) s.dev
    let shown (m : Mail) : Reply := okReply 0x29 tag (.mailText m.cls m.arrival m.text m.codes)
    (body.length = 2 → found = none → Reads (.mailRead tag body) s (refusal 0x29 tag .notFound)
        ∧ Reads (.mailDelete tag body) s (refusal 0x2B tag .notFound))
    ∧ (body.length = 2 → ∀ m ∈ found, m.state ≠ .unread → Reads (.mailRead tag body) s (shown m))
    ∧ (body.length = 2 → ∀ m ∈ found, m.state = .unread → m.cls ≠ .priority →
        Answered (.mailRead tag body) s (shown m) (change s.dev fun x => { x with state := .read }))
    ∧ (body.length = 2 → ∀ m ∈ found, m.state = .unread → m.cls = .priority →
        Answered (.mailRead tag body) s (shown m)
          (if receipt.1 = .added then change receipt.2 fun x => { x with state := .read, receipt := .queued }
           else change s.dev fun x => { x with state := .read, receipt := .pending }))
    ∧ (body.length = 3 → found = none → Reads (.mailReply tag body) s (refusal 0x2A tag .notFound))
    ∧ (body.length = 3 → ∀ m ∈ found, m.state ≠ .read → Reads (.mailReply tag body) s (refusal 0x2A tag .wrongState))
    ∧ (body.length = 3 → ∀ m ∈ found, m.state = .read → (m.codes.any fun x => x.toNat == code) = false →
        Reads (.mailReply tag body) s (refusal 0x2A tag .outOfRange))
    ∧ (body.length = 3 → ∀ m ∈ found, m.state = .read → (m.codes.any fun x => x.toNat == code) = true →
        if canned.1 = .added then
          Answered (.mailReply tag body) s (okReply 0x2A tag .none)
            (change canned.2 fun x => { x with state := .replied, reply := some (code, .queued) })
        else Reads (.mailReply tag body) s (refusal 0x2A tag .queueFull))
    ∧ (body.length = 2 → ∀ m ∈ found, m.receipt = .pending →
        Reads (.mailDelete tag body) s (refusal 0x2B tag .wrongState))
    ∧ (body.length = 2 → ∀ m ∈ found, m.receipt ≠ .pending →
        Answered (.mailDelete tag body) s (okReply 0x2B tag .none)
          { s.dev with mail := { s.dev.mail with
            mail := s.dev.mail.mail.filter fun x => x.number != field body 0 2 } })
    ∧ (body.length = 0 ∨ 160 < body.length → Reads (.sendText tag body) s (refusal 0x2C tag .outOfRange))
    ∧ (1 ≤ body.length → body.length ≤ 160 → (body.all fun x => decide (0x20 ≤ x.toNat ∧ x.toNat ≤ 0xFE)) = false →
        Reads (.sendText tag body) s (refusal 0x2C tag .malformed))
    ∧ (1 ≤ body.length → body.length ≤ 160 → (body.all fun x => decide (0x20 ≤ x.toNat ∧ x.toNat ≤ 0xFE)) = true →
        if text.1 = .added then
          Answered (.sendText tag body) s (okReply 0x2C tag (.outbound s.dev.mail.outbound))
            { text.2 with mail := { s.dev.mail with
              outbound := if s.dev.mail.outbound = 255 then 0 else s.dev.mail.outbound + 1 } }
        else Reads (.sendText tag body) s (refusal 0x2C tag .queueFull))

/-! ### Emergency calls (09) -/

/-- A raise, from the host or from the panic debounce (R54, R163 to R165). In QUIET and in CANCELLING it starts a call: the
next number, the clock's time, the window of 100 ticks, the lane at EMERGENCY, the open offers and undelivered bids and
the booking given up, the shift's count one more. The host's raise is replied to in either mode; in RAISED and
ACKNOWLEDGED it is ALREADY. The panic raise is told by a notice unless covert mode is on, whether or not a request is in
hand. That notice comes after those of the Offer Table (log 12), and PANIC_RAISE takes the panic sample's share of the coming
tick and marks it taken (log 8): both the model's choices. -/
def Obligations.CallsAreRaised : Prop :=
  ∀ (s : State) (tag : Byte),
    let free : Bool := s.dev.emergency.state == .quiet || s.dev.emergency.state == .cancelling
    let n := if s.dev.emergency.number < 255 then s.dev.emergency.number + 1 else 0
    let called (d : Device) : Device :=
      let tell := !d.items.covert
      let out := releaseBooking .emergency tell
        (removeOffers .emergency tell (fun o => o.isOffered || o.bidUndelivered) { d with
          emergency := { d.emergency with
            state := .raised, number := n, time := reading d, window := 100, cancelSent := 0, track := none }
          uplink := { d.uplink with lane := .emergency } })
      { out with meter := { out.meter with
        shift := out.meter.shift.map fun x => { x with emergencies := min 255 (x.emergencies + 1) } } }
    let pressed : Device := { s.dev with
      pins := { s.dev.pins with panic := true }
      vehicle := { s.dev.vehicle with panic := ⟨true, 0⟩ } }
    let heard : Device :=
      if free then notifyIf (!s.dev.items.covert) (.emergencyPanic .raised n (reading s.dev)) (called pressed) else pressed
    s.dev.emergency.number ≤ 255 →
    (LinkReady s.dev → SignTrue s.dev → tag ≠ 0 → free = true →
        Answered (.emergencyRaise tag []) s (okReply 0x30 tag (.raised n (reading s.dev))) (called s.dev))
    ∧ (LinkReady s.dev → SignTrue s.dev → tag ≠ 0 → free = false → Reads (.emergencyRaise tag []) s
        ⟨0x30, tag, .ok, .already, .raise s.dev.emergency.state s.dev.emergency.number s.dev.emergency.time⟩)
    ∧ (s.dev.link.accepting = true → s.dev.ahead.panic = false → s.dev.vehicle.panic = ⟨false, 4⟩ →
        Leaves .panicRaise s { heard with ahead := { heard.ahead with panic := true } })

/-- The answers to a call and its withdrawal (R168, R170 to R172). EMERGENCY_CANCEL by state: WRONG_STATE in QUIET,
ONLY_BASE in ACKNOWLEDGED, ALREADY in CANCELLING, TOO_LATE in RAISED once the window has closed; else CANCELLING when an
alarm has gone and QUIET when none has. A matching EMERGENCY_ACK in RAISED acknowledges and starts the track timer; a
matching EMERGENCY_CLEAR ends the call from any state but QUIET; an answer with another number changes nothing. That the
ALREADY reply carries the state CANCELLING (log 48) and that the notice of cause ACK carries the state ACKNOWLEDGED (log 55)
are the model's choices. -/
def Obligations.CallsAreAnsweredAndWithdrawn : Prop :=
  ∀ (s : State) (tag : Byte) (dest : DownAddr) (identity : Option Nat) (raise : Nat), SignTrue s.dev → tag ≠ 0 →
    let e := s.dev.emergency
    let d := endCollecting s.dev
    let quiet (x : Device) : Device := { x with
      emergency := { x.emergency with state := .quiet, window := 0, alarmSent := false, cancelSent := 0, track := none }
      uplink := { x.uplink with lane := .empty } }
    (LinkReady s.dev → e.state = .quiet → Reads (.emergencyCancel tag []) s (refusal 0x31 tag .wrongState))
    ∧ (LinkReady s.dev → e.state = .acknowledged → Reads (.emergencyCancel tag []) s (refusal 0x31 tag .onlyBase))
    ∧ (LinkReady s.dev → e.state = .cancelling →
        Reads (.emergencyCancel tag []) s ⟨0x31, tag, .ok, .already, .emState .cancelling⟩)
    ∧ (LinkReady s.dev → e.state = .raised → e.window = 0 →
        Reads (.emergencyCancel tag []) s (refusal 0x31 tag .tooLate))
    ∧ (LinkReady s.dev → e.state = .raised → e.window ≠ 0 → e.alarmSent = true →
        Answered (.emergencyCancel tag []) s (okReply 0x31 tag (.emState .cancelling)) { s.dev with
          emergency := { e with state := .cancelling, cancelSent := 0, window := 0 }
          uplink := { s.dev.uplink with lane := .cancel } })
    ∧ (LinkReady s.dev → e.state = .raised → e.window ≠ 0 → e.alarmSent = false →
        Answered (.emergencyCancel tag []) s (okReply 0x31 tag (.emState .quiet)) (quiet s.dev))
    ∧ (Taken (.emergencyAck dest identity raise) s.dev → e.state = .raised → raise = e.number →
        Leaves (.emergencyAck dest identity raise) s
          (notifyIf (!d.items.covert) (.emergency .ack .acknowledged e.number) { d with
            emergency := { e with state := .acknowledged, track := some (10 * d.items.trackInterval) }
            uplink := { d.uplink with lane := .empty } }))
    ∧ (Taken (.emergencyAck dest identity raise) s.dev → e.state ≠ .raised ∨ raise ≠ e.number →
        Leaves (.emergencyAck dest identity raise) s d)
    ∧ (Taken (.emergencyClear dest identity raise) s.dev → e.state ≠ .quiet → raise = e.number →
        Leaves (.emergencyClear dest identity raise) s
          (notifyIf (!d.items.covert) (.emergency .clear .quiet e.number) (quiet d)))
    ∧ (Taken (.emergencyClear dest identity raise) s.dev → e.state = .quiet ∨ raise ≠ e.number →
        Leaves (.emergencyClear dest identity raise) s d)

/-! ### Sign and Display, configuration (10, 11) -/

/-- SIGN_LOAD writes its patterns into successive entries, 0 following 7, or refuses them in the order of its checks;
SIGN_BLANK sets the flag and the selection is made again; the display output takes the waiting record (R182, R183, R186).
A lamp is lit by its mode in the selected entry, and its output is active when it is lit, the other way round under an
inverted polarity (R180). The flash clock counts 125 ms steps modulo 8, SLOW lit in the first four and FAST in each even one:
the model's choice of phase (log 38); SLOW changes every fourth step and FAST at every one. -/
def Obligations.SignAndDisplayAct : Prop :=
  ∀ (s : State) (tag : Byte) (body : List Byte), s.dev.sign.table.length = 8 →
    let ready : Prop := LinkReady s.dev ∧ SignTrue s.dev ∧ tag ≠ 0
    let flash := s.dev.sign.flash
    let lit (m : LampMode) : Bool := match m with
      | .off => false
      | .on => true
      | .slow => decide (flash % 8 < 4)
      | .fast => decide (flash % 2 = 0)
    let start := byteAt body 0
    let count := byteAt body 1
    let modes := body.drop 2
    let mode (n : Nat) : LampMode := match n with
      | 0 => .off
      | 1 => .on
      | 2 => .slow
      | _ => .fast
    let pattern (j : Nat) : Pattern :=
      ⟨mode (byteAt modes (4 * j)), mode (byteAt modes (4 * j + 1)), mode (byteAt modes (4 * j + 2)),
       mode (byteAt modes (4 * j + 3))⟩
    let allowed : Bool := modes.all fun x => decide (x.toNat ≤ 3)
    let loaded : List Pattern := (List.range 8).map fun i =>
      if (i + 8 - start) % 8 < count then pattern ((i + 8 - start) % 8) else (s.dev.sign.table[i]?).getD (pattern 0)
    let blanked (b : Bool) : Device := { s.dev with sign := { s.dev.sign with blank := b } }
    (ready → count < 1 ∨ 8 < count ∨ body.length ≠ 2 + 4 * count →
        Reads (.signLoad tag body) s (refusal 0x34 tag .malformed))
    ∧ (ready → 1 ≤ count → count ≤ 8 → body.length = 2 + 4 * count →
        if allowed = false ∨ 7 < start then Reads (.signLoad tag body) s (refusal 0x34 tag .outOfRange)
        else if 8 ≤ start + count ∧ s.dev.tariff.switch.isOpen = false then
          Reads (.signLoad tag body) s (refusal 0x34 tag .locked)
        else
          Answered (.signLoad tag body) s (okReply 0x34 tag (.selected (toldEntry s.dev)))
            { s.dev with sign := { s.dev.sign with table := loaded } })
    ∧ (ready → body.length = 1 → byteAt body 0 = 0 →
        Answered (.signBlank tag body) s (okReply 0x35 tag (.blank false (toldEntry (refresh (blanked false)))))
          (blanked false))
    ∧ (ready → body.length = 1 → byteAt body 0 = 1 →
        Answered (.signBlank tag body) s (okReply 0x35 tag (.blank true (toldEntry (refresh (blanked true)))))
          (blanked true))
    ∧ (ready → body.length = 1 → 1 < byteAt body 0 → Reads (.signBlank tag body) s (refusal 0x35 tag .outOfRange))
    ∧ exec .displayRecordSent s = .next { s with dev :=
        { s.dev with sign := { s.dev.sign with sending := s.dev.sign.waiting, waiting := none } } }
    ∧ exec .flashClock s = .next { s with dev :=
        { s.dev with sign := { s.dev.sign with flash := (s.dev.sign.flash + 1) % 8 } } }
    ∧ (∀ m ∈ s.dev.sign.table[s.dev.sign.selected]?,
        let inverted := s.dev.items.polarity
        lampOutputs s.dev = (xor (lit m.l1) inverted.l1, xor (lit m.l2) inverted.l2, xor (lit m.l3) inverted.l3,
          xor (lit m.l4) inverted.l4))
    ∧ lampLit .slow (flash + 4) = !lampLit .slow flash ∧ lampLit .fast (flash + 1) = !lampLit .fast flash

/-- SET_CONFIG for each of the seven items: a value in range is stored and replied as stored, the track interval clamped to
5..60, the acceptance list MALFORMED where its count does not match or an id is repeated, the sensor mode LOCKED while
the switch is LOCKED; any other value is refused with OUT_OF_RANGE, and a value of another length with MALFORMED before
any other check (R23, R47, R91, R106, R169, R175, R180, R196). That a lamp's polarity is replied with those of all four
lamps is the model's choice (log 49). -/
def Obligations.ItemsAreConfigured : Prop :=
  ∀ (s : State) (tag : Byte) (value : List Byte), LinkReady s.dev → SignTrue s.dev → tag ≠ 0 →
    let n := byteAt value 0
    let stored (c : Instr) (i : Item) (d : Device) : Prop := Answered c s (okReply 0x39 tag (.items [i])) d
    let refused (r : Result) (c : Instr) : Prop := Reads c s (refusal 0x39 tag r)
    let x := s.dev.items
    let b : Bool := n == 1
    let arbitration : Arbitration := if n = 1 then .rotating else .fixed
    let sensor : SensorMode := if n = 1 then .quadrature else .single
    let ids : List Nat := (List.range n).map fun i => field value (1 + 2 * i) 2
    let inverted : Bool := byteAt value 1 == 1
    let polarity : Polarity :=
      { l1 := if n = 1 then inverted else x.polarity.l1, l2 := if n = 2 then inverted else x.polarity.l2
        l3 := if n = 3 then inverted else x.polarity.l3, l4 := if n = 4 then inverted else x.polarity.l4 }
    (value.length = 1 →
        if n ≤ 1 then stored (.setConfigArbitrationMode tag value) (.arbitration arbitration)
          { s.dev with items := { x with arbitration := arbitration } }
        else refused .outOfRange (.setConfigArbitrationMode tag value))
    ∧ (value.length = 1 →
        if n ≤ 1 then stored (.setConfigCovert tag value) (.covert b) { s.dev with items := { x with covert := b } }
        else refused .outOfRange (.setConfigCovert tag value))
    ∧ (value.length = 1 →
        stored (.setConfigTrackInterval tag value) (.trackInterval (max 5 (min 60 n)))
          { s.dev with items := { x with trackInterval := max 5 (min 60 n) } })
    ∧ (if 1 ≤ n ∧ n ≤ 4 ∧ value.length = 1 + 2 * n ∧ ids.Nodup then
          stored (.setConfigAcceptanceList tag value) (.acceptance ids)
            { s.dev with items := { x with acceptance := ids } }
        else refused .malformed (.setConfigAcceptanceList tag value))
    ∧ (value.length = 1 →
        if s.dev.tariff.switch.isOpen = false then refused .locked (.setConfigSensorMode tag value)
        else if n < 1 ∨ 2 < n then refused .outOfRange (.setConfigSensorMode tag value)
        else stored (.setConfigSensorMode tag value) (.sensorMode sensor)
          { s.dev with
            items := { x with sensorMode := sensor }
            vehicle :=
              if sensor = x.sensorMode then s.dev.vehicle
              else { s.dev.vehicle with
                pairA := s.dev.pins.a, pairB := s.dev.pins.b, phaseErrors := [0, 0, 0, 0, 0, 0, 0, 0, 0, 0] } })
    ∧ (value.length = 1 →
        if n ≤ 1 then stored (.setConfigOccupancyCheck tag value) (.occupancyCheck b)
          { s.dev with
            items := { x with occupancyCheck := b }
            vehicle := { s.dev.vehicle with unmetered := if b then s.dev.vehicle.unmetered else ⟨0, 0, false, 0⟩ } }
        else refused .outOfRange (.setConfigOccupancyCheck tag value))
    ∧ (value.length = 2 →
        if 1 ≤ n ∧ n ≤ 4 ∧ byteAt value 1 ≤ 1 then
          stored (.setConfigLampPolarity tag value) (.polarity polarity)
            { s.dev with items := { x with polarity := polarity } }
        else refused .outOfRange (.setConfigLampPolarity tag value))
    ∧ (value.length ≠ 1 → ∀ c ∈ [Instr.setConfigArbitrationMode tag value, .setConfigCovert tag value,
          .setConfigTrackInterval tag value, .setConfigSensorMode tag value, .setConfigOccupancyCheck tag value],
        refused .malformed c)
    ∧ (value.length ≠ 2 → refused .malformed (.setConfigLampPolarity tag value))

/-! ### Registration and reset (05, 11) -/

/-- A forfeit gives up the address, the open offers, the booking and the flight (R87, R121, R140); RESCAN and a NETWORK_RESET
that the cab takes, whatever its address form (R93), forfeit and return to SEARCHING, RESCAN refused while BARRED,
NETWORK_RESET without effect in BARRED and INCOMPATIBLE (R90, R92). The model's choices: the REGISTRATION notice comes after
those of the forfeit (log 26); and the room that the removed BIDs leave is offered like any other, so a PENDING receipt can
become QUEUED, though R162 says that a RESCAN changes nothing in the Mailbox (log 47). -/
def Obligations.RegistrationIsDropped : Prop :=
  ∀ (s : State) (tag : Byte) (dest : DownAddr), Lawful s.dev → tag ≠ 0 →
    let gone := forfeit s.dev
    let dropped (cause : RegCause) (d : Device) : Device :=
      let out := forfeit d
      notifyIf (d.channel.reg != .searching || d.channel.address.isSome) (.registration .searching none none cause)
        { out with channel := { out.channel with
          reg := .searching, address := none, network := none, logon := none, lostPeriod := none, holdTimer := 0
          lossTimer := 0 } }
    gone.channel = { s.dev.channel with address := none }
    ∧ gone.offers.entries = (s.dev.offers.entries.filter fun o => !o.isOpen)
    ∧ gone.offers.booking = .none ∧ gone.offers.lastTold = .none ∧ gone.offers.answer = none
    ∧ gone.uplink.inFlight = none
    ∧ (gone.uplink.entries.all fun e => e.state != .inFlight && e.msg.bidJob.all fun j =>
        gone.offers.entries.any fun o => o.job == j) = true
    ∧ (gone.store.records.all fun r => r.mark != .inFlight) = true
    ∧ gone.store.records.map Stored.number = s.dev.store.records.map Stored.number
    ∧ gone = { s.dev with channel := gone.channel, offers := gone.offers, uplink := gone.uplink, store := gone.store
                          mail := gone.mail, link := gone.link }
    ∧ (LinkReady s.dev → s.dev.channel.reg = .barred → Reads (.rescan tag []) s (refusal 0x1C tag .wrongState))
    ∧ (LinkReady s.dev → s.dev.channel.reg ≠ .barred →
        Answered (.rescan tag []) s (okReply 0x1C tag (.regBefore s.dev.channel.reg)) (dropped .rescan s.dev))
    ∧ (Taken (.networkReset dest) s.dev → s.dev.channel.reg ∉ [RegState.barred, .incompatible] →
        Leaves (.networkReset dest) s (dropped .networkReset (endCollecting s.dev)))
    ∧ (Taken (.networkReset dest) s.dev → s.dev.channel.reg ∈ [RegState.barred, .incompatible] →
        Leaves (.networkReset dest) s (endCollecting s.dev))

/-- A host RESET (R199) is refused with WRONG_STATE unless the meter is UNCALIBRATED or OFF_DUTY with no call in progress.
Taken, it empties the link, the load, the queue, the offers, the mailbox, the fix and the unmetered count, keeps the
meter, the totals, the records and the bar, tells STARTED and sends the display record once more. Of the cycle's plan the
uses are discarded and the mark of slot 0 is kept, which is the model's reading (log 16). -/
def Obligations.HostResetEmptiesTheBlocks : Prop :=
  ∀ (s : State) (tag : Byte), LinkReady s.dev → Lawful s.dev → tag ≠ 0 →
    let allowed : Bool :=
      (s.dev.meter.state == .uncalibrated || s.dev.meter.state == .offDuty) && s.dev.emergency.state == .quiet
    let barred : Bool := s.dev.channel.reg == .barred
    let emptied : Device := { s.dev with
      link := { s.dev.link with rx := ⟨[], 0, false⟩, input := [], notices := [], crcErrors := 0
                                sticky := ⟨false, false, false, false, false, false, false, false⟩ }
      tariff := { s.dev.tariff with load := none }
      vehicle := { s.dev.vehicle with unmetered := ⟨0, 0, false, 0⟩, fix := none }
      store := { s.dev.store with records := s.dev.store.records.map fun r => { r with mark := .waiting } }
      uplink := { s.dev.uplink with
        entries := [], inFlight := none, pointer := 1, nextSeq := 0, statusOwed := false, accountingOwed := false
        unmeteredOwed := false, lane := .empty
        plan := s.dev.uplink.plan.map fun p => { p with polls := [], contention := none } }
      offers := { entries := [], history := [], booking := .none, lastTold := .none, answer := none }
      mail := { first := none, second := none, latest := .first, mail := [], outbound := 0 }
      channel :=
        if barred then { s.dev.channel with lossTimer := 0 }
        else { s.dev.channel with reg := .searching, address := none, network := none, logon := none, lostPeriod := none
                                  holdTimer := 0, lossTimer := 0 } }
    let told : Device := makeAccounting
      (notifyIf (!barred && s.dev.channel.reg != .searching) (.registration .searching none none .hostReset) emptied)
    let record := displayRecord told
    (allowed = false → Reads (.reset tag []) s (refusal 0x3C tag .wrongState))
    ∧ (allowed = true →
        Answered (.reset tag []) s (okReply 0x3C tag .none)
          (notify (.started .hostReset told.meter.state told.channel.reg told.tariff.revision Config.partRevision)
            { told with sign := { told.sign with
              selected := selectEntry told
              last := some record
              sending := if told.sign.sending.isNone then some record else told.sign.sending
              waiting := if told.sign.sending.isNone then told.sign.waiting else some record } }))

/-- The registration orders (R84, R88, R89, R93), whatever the form of their address, and the blocks the cab does not take,
of every downlink kind: a block not taken changes nothing but a header still being collected, which is damaged. The model's
readings: an ASSIGN asks for this cab's identity under every address (log 25); the block that damages a header is itself
judged (log 22); a BAR's REGISTRATION notice comes last (log 43); an UNBAR without an address clears the network (log 20). -/
def Obligations.BaseOrdersRegistration : Prop :=
  ∀ (s : State) (dest : DownAddr) (identity address : Nat), Lawful s.dev →
    let d := endCollecting s.dev
    let here (cause : RegCause) (x : Device) : Device :=
      notify (.registration x.channel.reg x.channel.address x.channel.network cause) x
    let registered : Device := { d with channel := { d.channel with
      reg := .registered, address := some address, logon := none, lostPeriod := none, lossTimer := 0 } }
    let moved : Device := { d with channel := { d.channel with address := some address } }
    let cut := releaseBooking .barred true (removeOffers .barred true Offer.isOpen { d with channel := { d.channel with
      reg := .barred, logon := none, lostPeriod := none, holdTimer := 0, lossTimer := 0 } })
    let mine : Bool := (d.tariff.inForce.map fun x => x.identity.cab) == some identity
    let assign : Instr := .assign dest identity address
    let bar : Instr := .bar dest identity
    let unbar : Instr := .unbar dest identity
    d = { s.dev with channel := { s.dev.channel with headerRx :=
        (match s.dev.channel.headerRx with
         | .collecting _ => .damaged
         | x => x) } }
    ∧ (Taken assign s.dev → mine = true → 1 ≤ address → address ≤ 2000 →
        (d.channel.reg = .logonWait → Leaves assign s (here .assign registered))
        ∧ (d.channel.reg = .registered → d.channel.address ≠ some address →
            Leaves assign s (here .assign (revertInFlight moved)))
        ∧ (d.channel.reg = .barred → d.channel.address ≠ some address →
            Leaves assign s (here .assign moved))
        ∧ (d.channel.reg ∉ [RegState.logonWait, .registered, .barred] ∨ d.channel.reg ≠ .logonWait ∧
            d.channel.address = some address → Leaves assign s d))
    ∧ (Taken assign s.dev → mine = false ∨ address < 1 ∨ 2000 < address → Leaves assign s d)
    ∧ (Taken bar s.dev →
        if d.channel.reg ∈ [RegState.barred, .incompatible] then Leaves bar s d
        else Leaves bar s (here .bar (if d.channel.reg = .registered then revertInFlight cut else cut)))
    ∧ (Taken unbar s.dev →
        if d.channel.reg ≠ .barred then Leaves unbar s d
        else if d.channel.address.isSome = true then
          Leaves unbar s (here .unbar { d with channel := { d.channel with reg := .registered, lossTimer := 0 } })
        else Leaves unbar s (here .unbar { d with channel := { d.channel with
            reg := .searching, network := none, logon := none, lostPeriod := none, holdTimer := 0 } }))
    ∧ (∀ c : Instr, (rowBlock c).isSome = true → ¬ Taken c s.dev →
        exec c s = .next { s with dev := if s.dev.link.accepting then d else s.dev })

/-! ### Blocks for the Offer Table and the Mailbox (07, 08) -/

/-- OFFER and OFFER_DETAIL that the cab takes, and ZONE_POSITION (R126 to R128, R144). An OFFER that any check fails is
dropped; an admitted one replaces an OFFERED entry of its job, is ignored for one bid on or awarded, or is appended, the
oldest OFFERED entry giving way at a full table. That the OFFER notices of cause REPLACED and DETAIL carry the whole entry,
where R127 and R128 name no fields for them, is the model's choice (log 54). -/
def Obligations.OffersArriveByRadio : Prop :=
  ∀ (s : State) (dest : DownAddr) (job : Nat) (forward : Bool) (pickup window price part : Nat) (chars : List Byte),
    Lawful s.dev →
    let d := endCollecting s.dev
    let c : Instr := .offer dest job forward pickup window price
    let fits : Bool := match dest with
      | .all => false
      | .short _ =>
        if forward then (d.meter.state == .hired || d.meter.state == .stopped) && !(d.offers.entries.any Offer.isForward)
        else d.meter.state == .forHire
      | .zone z => !forward && d.meter.state == .forHire && bookingIn z d
    let admitted : Bool := decide (1 ≤ job ∧ job ≤ 16777215 ∧ pickup ≤ 250 ∧ price ≤ 999999)
      && d.channel.reg == .registered && d.emergency.state == .quiet && fits
    let o : Offer :=
      { job, forward
        origin := (match dest with
          | .zone z => .zone z
          | _ => .direct)
        pickup := if pickup = 0 then none else some pickup
        window := max 5 (min 60 window), count := 10 * max 5 (min 60 window)
        price := if price = 0 then none else some price
        detail0 := none, detail1 := none, detail2 := none, state := .offered }
    let held := d.offers.entries.find? fun x => x.job == job
    let detailed (x : Offer) : Offer :=
      { x with detail0 := if part = 0 then some chars else x.detail0
               detail1 := if part = 1 then some chars else x.detail1
               detail2 := if part = 2 then some chars else x.detail2 }
    let appended (x : Device) : Device :=
      notify (.offer .new o) { x with offers := { x.offers with entries := x.offers.entries ++ [o] } }
    (Taken c s.dev → admitted = false → Leaves c s d)
    ∧ (Taken c s.dev → admitted = true → ∀ x ∈ held,
        if x.isOffered = true then
          Leaves c s (notify (.offer .replaced o) { d with offers := { d.offers with
            entries := d.offers.entries.map fun y => if y.job = job then o else y } })
        else Leaves c s d)
    ∧ (Taken c s.dev → admitted = true → held = none → d.offers.entries.length < 6 → Leaves c s (appended d))
    ∧ (Taken c s.dev → admitted = true → held = none → d.offers.entries.length = 6 →
        Leaves c s (match d.offers.entries.find? Offer.isOffered with
          | some old => appended (removeOffer .displaced true old d)
          | none => d))
    ∧ (Taken (.offerDetail dest job part chars) s.dev →
        Leaves (.offerDetail dest job part chars) s (match held with
          | some x =>
            if part ≤ 2 then
              notify (.offer .detail (detailed x)) { d with offers := { d.offers with
                entries := d.offers.entries.map fun y => if y.job = job then detailed y else y } }
            else d
          | none => d))
    ∧ (Taken (.zonePosition dest part window) s.dev → window ≤ 255 →
        if bookingIn part d = false ∨ d.offers.booking = .booked part window ∧ window ≠ 0 then
          Leaves (.zonePosition dest part window) s d
        else if window = 0 then
          Leaves (.zonePosition dest part window) s (notify (.zone .none .refused)
            { d with offers := { d.offers with booking := .none, lastTold := .none, answer := none } })
        else
          Leaves (.zonePosition dest part window) s (notify (.zone (.booked part window) .position)
            { d with offers := { d.offers with booking := .booked part window, answer := none } }))

/-- AWARD, WITHDRAW and JOB_CANCEL that the cab takes (R133 to R136). The role goes to ACTIVE, else to FORWARD; with both
held the entry goes and a DECLINE is asked for. An AWARD for a job not held, or for a zone offer not bid on, is declined
as NOT_HELD. A WITHDRAW removes an open entry; a JOB_CANCEL any entry but the IN_TRIP one, whose trip it flags. A job number
outside 1 to 16,777,215 changes nothing. That an entry awarded keeps the window count it had is the model's choice (log 62). -/
def Obligations.AwardsAndWithdrawalsAct : Prop :=
  ∀ (s : State) (dest : DownAddr) (job : Nat), Lawful s.dev →
    let inRange : Prop := 1 ≤ job ∧ job ≤ 16777215
    let d := endCollecting s.dev
    let held := d.offers.entries.find? fun x => x.job == job
    let given (st : OfferState) (x : Device) : Device := { x with offers := { x.offers with
      entries := x.offers.entries.map fun y => if y.job = job then { y with state := st } else y } }
    let awarded (o : Offer) (x : Device) : Device :=
      if (x.offers.entries.any Offer.isActive) = false then notify (.jobAwarded job .active) (given (.active false) x)
      else if (x.offers.entries.any Offer.isForward) = false then
        notify (.jobAwarded job .forward) (given .forward x)
      else
        let asked := ask (.decline job .capacity) (removeOffer .capacity false o x)
        notify (.offerRemoved job .capacity (some (asked.1 == .added))) asked.2
    let notHeld (x : Device) : Device :=
      let asked := ask (.decline job .notHeld) x
      notify (.jobNotHeld job (asked.1 == .added)) asked.2
    (Taken (.award dest job) s.dev → inRange → held = none → Leaves (.award dest job) s (notHeld d))
    ∧ (Taken (.award dest job) s.dev → inRange → ∀ o ∈ held,
        if o.isBidding = true then Leaves (.award dest job) s (awarded o (removeBid job d))
        else if o.isOffered = true then
          if o.origin = .direct then Leaves (.award dest job) s (awarded o d)
          else Leaves (.award dest job) s (notHeld (removeOffer .notBid true o d))
        else Leaves (.award dest job) s d)
    ∧ (Taken (.withdraw dest job) s.dev → inRange →
        Leaves (.withdraw dest job) s (match held with
          | some o => if o.isOffered = true ∨ o.isBidding = true then removeOffer .lost true o d else d
          | none => d))
    ∧ (Taken (.jobCancel dest job) s.dev → inRange →
        Leaves (.jobCancel dest job) s (match held with
          | some o =>
            if o.state = .active true then
              { d with meter := { d.meter with
                trip := d.meter.trip.map fun t => { t with flags := { t.flags with jobCancelled := true } } } }
            else removeOffer .cancelled true o d
          | none => d))
    ∧ (∀ c ∈ [Instr.award dest job, .withdraw dest job, .jobCancel dest job], Taken c s.dev → ¬ inRange → Leaves c s d)

/-- TEXT_PART that the cab takes (R148 to R153): a part ill formed, or of a message the mailbox holds, is ignored; a message
of one part is completed at once; another part joins its buffer unless it disagrees with it or is there already, or opens
a buffer, the one last heard of earlier giving way; the last part missing completes the message. A completed message
enters the list, the oldest settled one, else the oldest unread plain one, giving way at 8; its text and codes are split
where the final part says. A buffer with a header count of 8 is discarded first: the model's reading of its timeout (log 9). -/
def Obligations.TextPartsAssemble : Prop :=
  ∀ (s : State) (dest : DownAddr) (p : TextPart) (cls : MsgClass), Lawful s.dev → Taken (.textPart dest p) s.dev →
    let c : Instr := .textPart dest p
    let fresh (b : Option Partial) : Option Partial := b.filter fun x => decide (x.headers < 8)
    let d0 := endCollecting s.dev
    let d : Device := { d0 with mail := { d0.mail with first := fresh d0.mail.first, second := fresh d0.mail.second } }
    let final : Bool := p.index + 1 == p.count
    let wellFormed : Bool := p.cls == some cls && decide (p.index < p.count)
      && (if final then decide (p.codes ≤ 4 ∧ p.codes ≤ p.positions.length) else decide (16 ≤ p.positions.length))
      && d.mail.mail.all fun m => m.number != p.number
    let secret : Bool := d.items.covert && d.emergency.state != .quiet
    let quietly (n : Notice) (x : Device) : Device := if secret then x else notify n x
    let completed (positions : List Byte) (codes : Nat) (x : Device) : Device :=
      let text := positions.take (positions.length - codes)
      let kept := ((positions.drop (positions.length - codes)).filter fun b => b != 0).reverse.dedup.reverse
      let m : Mail :=
        { number := p.number, cls, arrival := reading x, text, codes := kept, state := .unread, receipt := .none
          reply := none }
      let enters (y : Device) : Device :=
        let z : Device := { y with mail := { y.mail with mail := y.mail.mail ++ [m] } }
        if secret && cls != .priority then z
        else notify (.newMail p.number cls text.length kept.length) z
      if text = [] then x
      else if x.mail.mail.length < 8 then enters x
      else match (x.mail.mail.find? fun y => y.state != .unread && y.receipt != .pending).or
          (x.mail.mail.find? fun y => y.state == .unread && y.cls != .priority) with
        | some old => enters (quietly (.mailEvicted old.number old.cls old.state)
            { x with mail := { x.mail with mail := x.mail.mail.filter fun y => y.number != old.number } })
        | none => { x with link := { x.link with sticky := { x.link.sticky with mailDropped := true } } }
    let inBuffer (b : BufferId) (v : Option Partial) (x : Device) : Device := match b with
      | .first => { x with mail := { x.mail with first := v, latest := .first } }
      | .second => { x with mail := { x.mail with second := v, latest := .second } }
    let joins (b : BufferId) (h : Partial) : Device :=
      let grown : Partial := { h with
        parts := h.parts ++ [⟨p.index, p.positions⟩], headers := 0
        codes := if final then some p.codes else h.codes }
      let at_ (i : Nat) : List Byte :=
        ((grown.parts.find? fun x => x.index == i).map HeldPart.positions).getD []
      if h.cls ≠ cls ∨ h.count ≠ p.count ∨ (h.parts.any fun x => x.index == p.index) = true then d
      else if grown.parts.length = p.count then
        completed ((List.range p.count).flatMap at_) (grown.codes.getD 0) (inBuffer b none d)
      else inBuffer b (some grown) d
    let opens (b : BufferId) : Device := inBuffer b (some
      { number := p.number, cls, count := p.count, parts := [⟨p.index, p.positions⟩]
        codes := if final then some p.codes else none, headers := 0 }) d
    (p.cls = none ∨ p.cls = some cls ∧ wellFormed = false → Leaves c s d)
    ∧ (wellFormed = true → p.count = 1 → Leaves c s (completed p.positions p.codes d))
    ∧ (wellFormed = true → p.count ≠ 1 →
        ∀ h ∈ d.mail.first.filter fun x => x.number == p.number, Leaves c s (joins .first h))
    ∧ (wellFormed = true → p.count ≠ 1 →
        ∀ h ∈ d.mail.second.filter fun x => x.number == p.number, Leaves c s (joins .second h))
    ∧ (wellFormed = true → p.count ≠ 1 →
        ((d.mail.first.toList ++ d.mail.second.toList).all fun x => x.number != p.number) = true →
        Leaves c s (opens
          (if d.mail.first = none then .first
           else if d.mail.second = none then .second
           else match d.mail.latest with
             | .first => .second
             | .second => .first)))

/-! ### Loss of supply (01, 03, 09, 11) -/

/-- SUPPLY_WARNING saves the meter, the residues and the emergency record, counts an interruption, drops the load, the
edges, what waits at the link and the display, and stops the part taking anything; a warning already active changes
nothing (R24, R38, R49, R67, R176, R186, R201). POWER_ON: every block at its start values, the meter from the set in force
and what backed storage holds, the clock run on by the outage or UNSET, the emergency call restored, the records and the
totals kept, one accounting entry and the STATUS queued, STARTED sent with its cause and EMERGENCY with cause RESTORED
waiting. The accounting entry stands before the STATUS, which is the model's order (log 30); what a power-on finds of the
saved state is the model's reading (logs 29, 39). The release of a warning is a power-on with the clock run on and backed
storage kept, and without a warning nothing (R24, R25, R51, R74, R97, R122, R147, R162, R177, R187, R200). That a
frame still being sent and a reply still waiting are dropped at the release, the transmitter being IDLE as R200 says where
R201 would finish them, is the model's choice (log 59). -/
def Obligations.SupplyIsLostAndReturns : Prop :=
  (∀ (s : State),
    (s.dev.link.accepting = false → exec .supplyWarning s = .next s)
    ∧ (s.dev.link.accepting = true →
        exec .supplyWarning s = .next { s with dev := { s.dev with
          backed := some
            ⟨⟨s.dev.meter.state,
              if s.dev.meter.state = .hired ∨ s.dev.meter.state = .stopped then s.dev.meter.trip else none,
              s.dev.meter.shift⟩,
             s.dev.tariff.totalResidue, s.dev.tariff.hiredResidue,
             ⟨s.dev.emergency.state, s.dev.emergency.number, s.dev.emergency.time, s.dev.emergency.alarmSent,
              s.dev.emergency.cancelSent⟩⟩
          pins := { s.dev.pins with supplyWarning := true }
          link := { s.dev.link with rx := ⟨[], 0, false⟩, input := [], notices := [], accepting := false }
          vehicle := { s.dev.vehicle with forward := 0, reverse := 0 }
          tariff := { s.dev.tariff with
            load := none
            lifetime := { s.dev.tariff.lifetime with
              powerInterruptions := min 65535 (s.dev.tariff.lifetime.powerInterruptions + 1) } }
          sign := { s.dev.sign with sending := none, waiting := none }
          ahead := ⟨false, false, false, false, false, false⟩ } }))
  ∧ (∀ (s : State) (backup : Option Nat) (kept : Bool) (elapsed : Nat), Lawful s.dev →
    let saved := if kept then s.dev.backed else none
    let old := s.dev.vehicle.calendar
    let total (t : ClockTime) (n : Nat) : Nat := t.second * 10 + t.tick + n
    let clock : Calendar := match backup, old.time with
      | none, _ => ⟨none, false⟩
      | some _, none => old
      | some n, some t =>
        if 65535 < t.day + total t n / 864000 then ⟨none, false⟩
        else ⟨some ⟨t.day + total t n / 864000, total t n % 864000 / 10, total t n % 10⟩,
              old.holiday && decide (total t n < 864000)⟩
    let now : Option Reading := clock.time.map fun t => ⟨t.day, t.second⟩
    let shift := saved.bind fun x => x.meter.shift
    let trip := saved.bind fun x => x.meter.trip
    let state : MeterState :=
      if s.dev.tariff.inForce = none then .uncalibrated
      else if shift = none then .offDuty
      else if trip = none then .forHire
      else .stopped
    let call : EmState := match saved with
      | some x => x.emergency.state
      | none => .quiet
    let t := after (.powerOn backup kept) s
    Completes (.powerOn backup kept) s
    ∧ t.meter =
        { state, shift, lastShift := s.dev.meter.lastShift, window := 0, replaced := none
          trip := trip.map fun x => { x with
            pendingTariff := none, stop := x.stop.or now, flags := { x.flags with powerInterrupted := true } } }
    ∧ t.vehicle =
        { pairA := s.dev.pins.a, pairB := s.dev.pins.b, forward := 0, reverse := 0, debt := 0
          phaseErrors := [0, 0, 0, 0, 0, 0, 0, 0, 0, 0], fault := false, implausible := false, calendar := clock
          panic := ⟨false, 0⟩, occupancy := ⟨false, 0⟩, unmetered := ⟨0, 0, false, 0⟩, fix := none }
    ∧ t.tariff = { s.dev.tariff with
        load := none, scheduled := scheduleResult t, switch := ⟨false, 0⟩
        totalResidue := (saved.map Saved.totalResidue).getD 0
        hiredResidue := (saved.map Saved.hiredResidue).getD 0 }
    ∧ t.store = { s.dev.store with records := s.dev.store.records.map fun r => { r with mark := .waiting } }
    ∧ t.channel =
        { reg := .searching, address := none, network := none, view := none, headerRx := .none, lastIntact := none
          lastAccepted := false, logon := none, loggedOnAs := none, lossTimer := 0, lostPeriod := none, holdTimer := 0 }
    ∧ t.uplink.entries.map Entry.msg = (t.store.records.head?.map recordMsg).toList ++ [.status]
    ∧ (t.uplink.entries.all fun e => e.seq == none && e.attempts == 0 && e.state == .waiting) = true
    ∧ t.uplink.inFlight = none ∧ t.uplink.pointer = 1 ∧ t.uplink.nextSeq = 0 ∧ t.uplink.plan = none
    ∧ t.uplink.statusOwed = false ∧ t.uplink.accountingOwed = false ∧ t.uplink.unmeteredOwed = false
    ∧ t.uplink.lane = (if call = .raised then .emergency else if call = .cancelling then .cancel else .empty)
    ∧ t.offers = { entries := [], history := [], booking := .none, lastTold := .none, answer := none }
    ∧ t.mail = { first := none, second := none, latest := .first, mail := [], outbound := 0 }
    ∧ t.emergency = (match saved with
        | some x =>
          { state := call, number := x.emergency.number, time := x.emergency.time, window := 0
            alarmSent := x.emergency.alarmSent, cancelSent := x.emergency.cancelSent
            track := if call = .acknowledged then some (10 * s.dev.items.trackInterval) else none }
        | none =>
          { state := .quiet, number := 0, time := none, window := 0, alarmSent := false, cancelSent := 0, track := none })
    ∧ t.sign =
        { table := s.dev.sign.table, blank := false, selected := selectEntry t, flash := 0
          last := some (displayRecord t), sending := some (displayRecord t), waiting := none }
    ∧ t.link =
        { rx := ⟨[], 0, false⟩, input := [], inHand := none, replyWaiting := none, crcErrors := 0, accepting := true
          sticky := ⟨false, false, false, false, false, false, !s.dev.link.accepting, false⟩
          tx := .notice (.started (if trip = none then .powerOn else .powerOnTripSaved) state .searching
            s.dev.tariff.revision Config.partRevision)
          notices := if call ≠ .quiet ∧ s.dev.items.covert = false then
            [.emergency .restored call t.emergency.number] else [] }
    ∧ t.items = s.dev.items ∧ t.backed = none ∧ t.radio = [] ∧ t.draws = s.dev.draws
    ∧ t.ahead = ⟨false, false, false, false, false, false⟩
    ∧ t.pins = { s.dev.pins with supplyWarning := false }
    ∧ (s.dev.link.accepting = false →
        exec (.supplyWarningRelease elapsed) s = exec (.powerOn (some elapsed) true) s)
    ∧ (s.dev.link.accepting = true → exec (.supplyWarningRelease elapsed) s = .next s))

/-! ### The tick (03) and its parts -/

/-- One TICK. The edges close into p (R44, R45, R48); the totals of the meter's state advance by p through their residues
(R7, R37, R40) and the unmetered count with them (R23, R41); a HIRED trip counts and accrues; the resume window counts down
(R11); the clock moves on (R50), and at a minute change the schedule is evaluated after the accrual: a new result sets or
clears the pending tariff of a HIRED trip (R9, R70), but not one that names the tariff which this tick's accrual replaced,
which sets and clears nothing (R36). Then, when no raise, loss or LOST period ends things at this tick, the offer windows, the
award deadlines (R129, R132), the booking answer timer (R145), the cancel window (R171), the track timer (R169), the
accounting hold (R115) and the channel's timers (R83, R85, R87) each count one. The frame gap counts (R188), the panic,
occupancy and switch inputs are sampled (R54, R55, R59), and the fix ages (R57). From a supply warning on only the input
levels are taken (R43). The order of these parts is the model's, the accrual before the clock's evaluation among it, which
R36 leaves open, and so is how long an evaluation counts as met by the tick before it (log 41); so are the `ahead` marks, by
which a share that a row of its own took is not taken again (log 8). Hired ticks have no top (log 31), and a fault that was
raised and cleared within the tick leaves the edges counted after it (log 52): the model's choices too. -/
def Obligations.TickRunsThePart : Prop :=
  ∀ (s : State) (panic occupied switchOpen : Bool), Lawful s.dev →
    let c : Instr := .tick panic occupied switchOpen
    let v := s.dev.vehicle
    let owed := min 4095 (v.debt + v.reverse)
    let paid := min v.forward owed
    let raw := v.forward - paid
    let p := if v.fault then 0 else min 1023 raw
    let wild : Bool := !v.fault && decide (1023 < raw)
    let st := s.dev.meter.state
    let k := (s.dev.tariff.inForce.map TariffSet.k).getD 0
    let metres (n r : Nat) : Nat := min 4294967295 (n + (r + p * 1000) / k)
    let rest (r : Nat) : Nat := (r + p * 1000) % k
    let hired : Bool := st == .hired
    let l := s.dev.tariff.lifetime
    let t := after c s
    let u := v.unmetered
    let counts : Bool := s.dev.items.occupancyCheck && st == .forHire && v.occupancy.taken && !u.stopped
    let driven := u.distance + (u.residue + p * 1000) / k
    let reached : Bool := counts && decide (200 ≤ driven)
    let vacated : Bool := !s.dev.ahead.occupancy && v.occupancy.taken && !occupied && v.occupancy.count == 9
    let calm : Bool := s.dev.ahead.panic || !panic || v.panic != ⟨false, 4⟩
    let ch := s.dev.channel
    let linked : Bool := ch.reg == .registered || ch.reg == .logonWait
    let still : Bool := calm
      && (s.dev.ahead.channel || (ch.lostPeriod != some 1199 && !(linked && decide (299 ≤ ch.lossTimer))))
    let down (o : Offer) : Offer := match o.state with
      | .offered => { o with count := o.count - 1 }
      | .bidding b (some n) => { o with state := .bidding b (some (n - 1)) }
      | _ => o
    let spent (o : Offer) : Bool := (o.isOffered && o.count == 0) || o.state == .bidding true (some 0)
    let held (e : Entry) : Entry := match e.state with
      | .held n => if n ≤ 1 then { e with state := .waiting, attempts := 0 } else { e with state := .held (n - 1) }
      | _ => e
    let em := s.dev.emergency
    let report : TrackReport :=
      ⟨((s.dev.tariff.inForce.map TariffSet.identity).getD ⟨0, 0⟩).cab, em.number,
       v.fix.map fun f => ⟨f.latitude, f.longitude, f.quality, f.time, decide (300 < f.age)⟩⟩
    let rx := s.dev.link.rx
    let gapped : Bool := rx.bytes != [] && !rx.byteSeen && rx.gap != 0
    (s.dev.link.accepting = false →
      exec c s = .next { s with dev := { s.dev with pins := { s.dev.pins with panic, occupied, switchOpen } } })
    ∧ Completes c s
    ∧ (s.dev.link.accepting = true →
        t.pins = { s.dev.pins with panic, occupied, switchOpen }
        ∧ t.vehicle.forward = 0 ∧ t.vehicle.reverse = 0
        ∧ t.vehicle.debt = (if v.fault then v.debt else owed - paid)
        ∧ t.vehicle.implausible = wild
        ∧ t.vehicle.phaseErrors = 0 :: v.phaseErrors.take 9
        ∧ t.vehicle.pairA = v.pairA ∧ t.vehicle.pairB = v.pairB ∧ t.vehicle.fault = v.fault
        ∧ t.vehicle.fix = v.fix.map (fun f => { f with age := min 655350 (f.age + 1) })
        ∧ t.ahead = ⟨false, false, false, false, false, false⟩
        ∧ t.items = s.dev.items ∧ t.backed = s.dev.backed ∧ t.radio = s.dev.radio ∧ t.draws = s.dev.draws
        ∧ t.meter.state = st ∧ t.meter.lastShift = s.dev.meter.lastShift
        ∧ t.store.next = s.dev.store.next
        ∧ t.store.records.map Stored.number = s.dev.store.records.map Stored.number
        ∧ t.tariff.inForce = s.dev.tariff.inForce ∧ t.tariff.revision = s.dev.tariff.revision
        ∧ t.meter.window = s.dev.meter.window - 1)
    ∧ (s.dev.link.accepting = true →
        t.tariff.lifetime.totalMetres = (if st = .uncalibrated then l.totalMetres else metres l.totalMetres s.dev.tariff.totalResidue)
        ∧ t.tariff.totalResidue = (if st = .uncalibrated then s.dev.tariff.totalResidue else rest s.dev.tariff.totalResidue)
        ∧ t.tariff.lifetime.hiredMetres = (if hired then metres l.hiredMetres s.dev.tariff.hiredResidue else l.hiredMetres)
        ∧ t.tariff.hiredResidue = (if hired then rest s.dev.tariff.hiredResidue else s.dev.tariff.hiredResidue)
        ∧ t.tariff.lifetime.trips = l.trips ∧ t.tariff.lifetime.fareSum = l.fareSum
        ∧ t.tariff.lifetime.extrasSum = l.extrasSum
        ∧ t.tariff.lifetime.powerInterruptions = l.powerInterruptions ∧ t.tariff.lifetime.recordsLost = l.recordsLost)
    ∧ (s.dev.link.accepting = true → ∀ x ∈ s.dev.meter.shift, ∃ y ∈ t.meter.shift,
        y.totalMetres = metres x.totalMetres x.totalResidue ∧ y.totalResidue = rest x.totalResidue
        ∧ y.hiredMetres = (if hired then metres x.hiredMetres x.hiredResidue else x.hiredMetres)
        ∧ y.hiredResidue = (if hired then rest x.hiredResidue else x.hiredResidue)
        ∧ y.number = x.number ∧ y.opened = x.opened ∧ y.trips = x.trips ∧ y.fareTotal = x.fareTotal
        ∧ y.extrasTotal = x.extrasTotal
        ∧ y.unmetered = (if reached then min 255 (x.unmetered + 1) else x.unmetered)
        ∧ (calm = true → y.emergencies = x.emergencies))
    ∧ (s.dev.link.accepting = true →
        t.vehicle.unmetered =
          (if vacated then ⟨0, 0, false, 0⟩
           else if !counts then u
           else if reached then ⟨200, rest u.residue, true, driven - 200⟩
           else ⟨driven, rest u.residue, false, 0⟩)
        ∧ t.uplink.unmeteredOwed = (s.dev.uplink.unmeteredOwed || reached))
    ∧ (s.dev.link.accepting = true → still = true →
        t.offers.entries = (s.dev.offers.entries.map down).filter (fun o => !spent o)
        ∧ t.offers.answer = (s.dev.offers.answer.filter fun n => decide (1 < n)).map (fun n => n - 1)
        ∧ t.offers.booking = (if s.dev.offers.answer = some 1 then .none else s.dev.offers.booking)
        ∧ t.offers.lastTold = s.dev.offers.lastTold)
    ∧ (s.dev.link.accepting = true → still = true →
        t.emergency = { em with
          window := em.window - 1
          track := if s.dev.ahead.track then em.track
            else em.track.map fun n => if n ≤ 1 then 10 * s.dev.items.trackInterval else n - 1 }
        ∧ t.uplink.lane = (if s.dev.ahead.track = false ∧ em.track = some 1 then .track report else s.dev.uplink.lane))
    ∧ (s.dev.link.accepting = true → still = true →
        t.uplink.entries.take s.dev.uplink.entries.length = s.dev.uplink.entries.map held
        ∧ t.uplink.inFlight = s.dev.uplink.inFlight)
    ∧ (s.dev.link.accepting = true → ∀ e ∈ s.dev.uplink.entries, e.isHeld = true →
        held e ∈ t.uplink.entries
        ∧ ∀ r ∈ s.dev.store.records, e.msg = recordMsg r →
            (if e.state = .held 1 then { r with mark := .waiting } else r) ∈ t.store.records)
    ∧ (s.dev.link.accepting = true → s.dev.ahead.channel = true → t.channel = ch)
    ∧ (s.dev.link.accepting = true → s.dev.ahead.channel = false → still = true →
        ch.reg ≠ .logonHold ∨ 1 < ch.holdTimer →
        t.channel = { ch with
          lostPeriod := ch.lostPeriod.map fun n => n + 1
          lossTimer := if linked = true ∨ ch.reg = .barred then min 300 (ch.lossTimer + 1) else ch.lossTimer
          holdTimer := ch.holdTimer - 1 })
    ∧ (s.dev.link.accepting = true →
        t.link.rx =
          (if rx.bytes = [] then rx
           else if rx.byteSeen then { rx with gap := 0, byteSeen := false }
           else if rx.gap = 0 then { rx with gap := 1 }
           else ⟨[], 0, false⟩)
        ∧ t.link.crcErrors = (if gapped then min 255 (s.dev.link.crcErrors + 1) else s.dev.link.crcErrors))
    ∧ (s.dev.link.accepting = true → st = .stopped → t.meter.trip = s.dev.meter.trip)
    ∧ (s.dev.link.accepting = true → st = .hired → ∀ x ∈ s.dev.meter.trip, ∀ set ∈ s.dev.tariff.inForce,
        ∀ tariff ∈ tariffAt set.tariffs x.tariff,
        let run := accrue tariff (derive k tariff) p
          { x with
            hiredEdges := min 4294967295 (x.hiredEdges + p), hiredTicks := x.hiredTicks + 1
            flags := { x.flags with distanceImplausible := x.flags.distanceImplausible || wild } }
        t.meter.trip.map (fun y => { y with pendingTariff := none }) = some { run with pendingTariff := none }
        ∧ (s.dev.ahead.clock = true ∨ v.calendar.time.any (fun y => y.tick < 9) = true ∨ v.calendar.time = none →
            t.meter.trip = some run)
        ∧ (let out : Option Nat := if run.tariff = x.tariff then none else some x.tariff
           let evaluated : Bool := !s.dev.ahead.clock
             && v.calendar.time.any fun y => decide (9 ≤ y.tick) && (y.second + 1) % 60 == 0
           let r := t.tariff.scheduled
           r = (if evaluated then scheduleResult t else s.dev.tariff.scheduled)
           ∧ t.meter.trip =
              some (if evaluated && r != s.dev.tariff.scheduled && (r.isNone || r != out) then takeResult r run else run)
           ∧ t.meter.replaced = if evaluated then none else out))
    ∧ (s.dev.link.accepting = true → st ≠ .hired → t.meter.replaced = none)
    ∧ (s.dev.link.accepting = true → wild = true → t.link.sticky.distanceImplausible = true)
    ∧ (s.dev.link.accepting = true →
        (v.calendar.time = none ∨ s.dev.ahead.clock = true → t.vehicle.calendar = v.calendar)
        ∧ (s.dev.ahead.clock = false → ∀ now ∈ v.calendar.time,
            t.vehicle.calendar =
              if now.tick < 9 then ⟨some { now with tick := now.tick + 1 }, v.calendar.holiday⟩
              else if now.second < 86399 then ⟨some ⟨now.day, now.second + 1, 0⟩, v.calendar.holiday⟩
              else if now.day < 65535 then ⟨some ⟨now.day + 1, 0, 0⟩, false⟩
              else ⟨none, false⟩))
    ∧ (s.dev.link.accepting = true → s.dev.ahead.switch = false →
        t.tariff.switch =
          let w := s.dev.tariff.switch
          if switchOpen = w.isOpen then ⟨w.isOpen, 0⟩
          else if w.count < 4 then ⟨w.isOpen, w.count + 1⟩
          else ⟨switchOpen, 0⟩)
    ∧ (s.dev.link.accepting = true → s.dev.ahead.occupancy = false →
        t.vehicle.occupancy =
          let w := v.occupancy
          if occupied = w.taken then ⟨w.taken, 0⟩
          else if w.count < 9 then ⟨w.taken, w.count + 1⟩
          else ⟨occupied, 0⟩)
    ∧ (s.dev.link.accepting = true → s.dev.ahead.panic = false →
        t.vehicle.panic =
          (if panic = v.panic.latched then ⟨v.panic.latched, 0⟩
           else if v.panic.count < 4 then ⟨v.panic.latched, v.panic.count + 1⟩
           else ⟨panic, 0⟩)
        ∧ (panic = true → v.panic = ⟨false, 4⟩ → t.emergency.state = .raised ∨ t.emergency.state = .acknowledged))

/-- The parts of a tick that are rows of their own. When the share is not due, or from a supply warning on, nothing happens;
when it is, the part does that share alone (R11, R23, R41, R50, R54, R55, R59, R61, R69, R171). The model's readings: a row
takes the part's share ahead of the TICK, and its mark keeps the TICK from taking it again (log 8); UNMETERED_EVENT is due
from the edges already counted in the tick in progress (log 18); an evaluation of MINUTE_CHANGE or CLOCK_DAY_RANGE_END
belongs to the coming tick, so that no tariff counts as replaced for it (R36, log 41); and the SWITCH notice comes before the
LOAD_ABORTED notice of the load that a change to LOCKED abandons (log 60). -/
def Obligations.TickPartsTakeTheirShare : Prop :=
  ∀ (s : State),
    let d := s.dev
    let on : Prop := d.link.accepting = true
    let v := d.vehicle
    let now := v.calendar.time
    let marked (x : Device) : Device := { x with ahead := { x.ahead with clock := true } }
    let following (t : ClockTime) : Calendar :=
      if t.second = 86399 then ⟨some ⟨t.day + 1, 0, 0⟩, false⟩ else ⟨some ⟨t.day, t.second + 1, 0⟩, v.calendar.holiday⟩
    let minute : Bool := !d.ahead.clock && now.any fun t =>
      t.tick == 9 && (t.second + 1) % 60 == 0 && !(t.second == 86399 && t.day == 65535)
    let range : Bool := !d.ahead.clock && now.any fun t => t.tick == 9 && t.second == 86399 && t.day == 65535
    let owed := min 4095 (v.debt + v.reverse)
    let p := if v.fault then 0 else min 1023 (v.forward - min v.forward owed)
    let k := (d.tariff.inForce.map TariffSet.k).getD 0
    let counts : Bool := d.items.occupancyCheck && d.meter.state == .forHire && v.occupancy.taken && !v.unmetered.stopped
      && decide (200 ≤ v.unmetered.distance + (v.unmetered.residue + p * 1000) / k)
    ClockLaw v.calendar →
    (on → d.meter.state = .stopped → d.meter.window = 1 →
        Leaves .resumeWindowExpiry s { d with meter := { d.meter with window := 0 } })
    ∧ (on → d.emergency.window = 1 →
        Leaves .cancelWindowExpiry s { d with emergency := { d.emergency with window := 0 } })
    ∧ (on → minute = true → ∀ t ∈ now,
        Leaves .minuteChange s (marked (evaluate { d with
          vehicle := { v with calendar := following t }, meter := { d.meter with replaced := none } })))
    ∧ (on → range = true →
        Leaves .clockDayRangeEnd s (marked (evaluate { d with
          vehicle := { v with calendar := ⟨none, false⟩ }, meter := { d.meter with replaced := none } })))
    ∧ (on → d.ahead.panic = false → v.panic = ⟨true, 4⟩ →
        Leaves .panicRearm s { d with
          pins := { d.pins with panic := false }, vehicle := { v with panic := ⟨false, 0⟩ }
          ahead := { d.ahead with panic := true } })
    ∧ (on → d.ahead.occupancy = false → v.occupancy.count = 9 →
        Leaves .occupancyLevelChange s { d with
          pins := { d.pins with occupied := !v.occupancy.taken }
          vehicle := { v with
            occupancy := ⟨!v.occupancy.taken, 0⟩
            unmetered := if v.occupancy.taken then ⟨0, 0, false, 0⟩ else v.unmetered }
          ahead := { d.ahead with occupancy := true } })
    ∧ (on → d.ahead.switch = false → d.tariff.switch = ⟨false, 4⟩ →
        Leaves .calibrationSwitchChange s (notify (.switch true) { d with
          pins := { d.pins with switchOpen := true }
          tariff := { d.tariff with
            switch := ⟨true, 0⟩
            lifetime := { d.tariff.lifetime with switchOpenings := min 65535 (d.tariff.lifetime.switchOpenings + 1) } }
          ahead := { d.ahead with switch := true } }))
    ∧ (on → d.ahead.switch = false → d.tariff.switch = ⟨true, 4⟩ →
        let locked : Device := notify (.switch false) { d with
          pins := { d.pins with switchOpen := false }, tariff := { d.tariff with switch := ⟨false, 0⟩ }
          ahead := { d.ahead with switch := true } }
        Leaves .calibrationSwitchChange s
          (if d.tariff.load = none then locked
           else notify .loadAborted { locked with
             tariff := { locked.tariff with load := none }
             link := { locked.link with sticky := { locked.link.sticky with loadAborted := true } } }))
    ∧ (on → counts = true →
        Leaves .unmeteredEvent s (notify .unmetered (askUnmetered { d with
          vehicle := { v with unmetered := ⟨200, (v.unmetered.residue + p * 1000) % k, true,
            v.unmetered.distance + (v.unmetered.residue + p * 1000) / k - 200⟩ }
          meter := { d.meter with
            shift := d.meter.shift.map fun x => { x with unmetered := min 255 (x.unmetered + 1) } } })))
    ∧ (d.link.accepting = false ∨ ¬ (d.meter.state = .stopped ∧ d.meter.window = 1) → exec .resumeWindowExpiry s = .next s)
    ∧ (d.link.accepting = false ∨ d.emergency.window ≠ 1 → exec .cancelWindowExpiry s = .next s)
    ∧ (d.link.accepting = false ∨ minute = false → exec .minuteChange s = .next s)
    ∧ (d.link.accepting = false ∨ range = false → exec .clockDayRangeEnd s = .next s)
    ∧ (d.link.accepting = false ∨ d.ahead.panic = true ∨ v.panic ≠ ⟨true, 4⟩ → exec .panicRearm s = .next s)
    ∧ (d.link.accepting = false ∨ d.ahead.panic = true ∨ v.panic ≠ ⟨false, 4⟩ → exec .panicRaise s = .next s)
    ∧ (d.link.accepting = false ∨ d.ahead.occupancy = true ∨ v.occupancy.count ≠ 9 →
        exec .occupancyLevelChange s = .next s)
    ∧ (d.link.accepting = false ∨ d.ahead.switch = true ∨ d.tariff.switch.count ≠ 4 →
        exec .calibrationSwitchChange s = .next s)
    ∧ (d.link.accepting = false ∨ counts = false → exec .unmeteredEvent s = .next s)

/-- WHEEL_EDGE (R44, R45, R47, R49): in QUADRATURE a change of A alone is forward when the levels then differ and reverse
when they agree, a change of B alone the other way round, a change of both a phase error; in SINGLE a rise of A alone
counts; the pair follows while the part is not held; nothing counts under a fault. The phase error that brings the window to
16 raises the fault, which SENSOR_FAULT is, both levels changing at once (log 8); it discards the edges already counted in
the tick in progress (log 33). After a warning the pins alone follow (log 40), and the transmitter takes a reply that waits:
the model's readings. -/
def Obligations.WheelEdgesAreCounted : Prop :=
  ∀ (s : State) (a b : Bool), VehicleLaw s.dev →
    let d := s.dev
    let v := d.vehicle
    let moved : Vehicle := { v with pairA := a, pairB := b }
    let pins : Pins := { d.pins with a, b }
    let quad : Bool := d.items.sensorMode == .quadrature
    let onlyA : Bool := a != v.pairA && b == v.pairB
    let onlyB : Bool := a == v.pairA && b != v.pairB
    let both : Bool := a != v.pairA && b != v.pairB
    let forward : Bool := if quad then onlyA && a != b || onlyB && a == b else !v.pairA && a
    let reverse : Bool := quad && (onlyA && a == b || onlyB && a != b)
    let errors := (v.phaseErrors.head?.getD 0 + 1) :: v.phaseErrors.tail
    let faulted (pairA pairB pinA pinB : Bool) : Device :=
      notify .sensorFault { d with
        pins := { d.pins with a := pinA, b := pinB }
        vehicle := { v with
          pairA, pairB, fault := true, phaseErrors := [0, 0, 0, 0, 0, 0, 0, 0, 0, 0], forward := 0, reverse := 0 }
        meter := { d.meter with
          trip := if d.meter.state = .hired then d.meter.trip.map fun t =>
            { t with flags := { t.flags with sensorFault := true } } else d.meter.trip }
        link := { d.link with sticky := { d.link.sticky with sensorFault := true } } }
    let left : Device :=
      if v.fault then { d with pins, vehicle := moved }
      else if forward then { d with pins, vehicle := { moved with forward := min 65535 (v.forward + 1) } }
      else if reverse then { d with pins, vehicle := { moved with reverse := min 65535 (v.reverse + 1) } }
      else if quad && both then
        if errors.sum < 16 then { d with pins, vehicle := { moved with phaseErrors := errors } } else faulted a b a b
      else { d with pins, vehicle := moved }
    (d.link.accepting = true → Leaves (.wheelEdge a b) s left)
    ∧ (d.link.accepting = false → d.link.tx ≠ .idle ∨ d.link.replyWaiting = none →
        exec (.wheelEdge a b) s = .next { s with dev := { d with pins } })
    ∧ (d.link.accepting = false → d.link.tx = .idle → ∀ r ∈ d.link.replyWaiting,
        exec (.wheelEdge a b) s = .next { s with dev :=
          { d with pins, link := { d.link with tx := .reply r, replyWaiting := none } } })
    ∧ (d.link.accepting = true → quad = true → v.fault = false → 16 ≤ errors.sum →
        Leaves .sensorFault s (faulted (!v.pairA) (!v.pairB) (!v.pairA) (!v.pairB)))
    ∧ (d.link.accepting = false ∨ quad = false ∨ v.fault = true ∨ errors.sum < 16 → exec .sensorFault s = .next s)

/-- The ends of the offer, booking, track and hold timers, each taken at its last tick (R115, R129, R132, R145, R169), and of
the Channel Controller's three (R83, R85, R87). A timer that is not at its last tick, or a part after a warning, is left
as it is. Each row takes its timer's share of the coming tick (log 8), and at the LOST period's end the REGISTRATION notice
comes after those of the forfeit (log 26): the model's choices. -/
def Obligations.TimersRunOut : Prop :=
  ∀ (s : State) (job : Nat), Lawful s.dev →
    let d := s.dev
    let on : Prop := d.link.accepting = true
    let held := d.offers.entries.find? fun o => o.job == job
    let ends (e : Entry) : Bool := e.state == .held 1
    let ended (e : Entry) : Entry := if ends e then { e with state := .waiting, attempts := 0 } else e
    let returned (r : Stored) : Stored :=
      if (d.uplink.entries.any fun e => ends e && e.msg == recordMsg r) then { r with mark := .waiting } else r
    let marked (x : Device) : Device := { x with ahead := { x.ahead with channel := true } }
    let report : TrackReport :=
      ⟨((d.tariff.inForce.map TariffSet.identity).getD ⟨0, 0⟩).cab, d.emergency.number,
       d.vehicle.fix.map fun f => ⟨f.latitude, f.longitude, f.quality, f.time, decide (300 < f.age)⟩⟩
    let loss : Bool := d.channel.reg == .registered || d.channel.reg == .logonWait
    let told (cause : RegCause) (x : Device) : Device :=
      notify (.registration x.channel.reg x.channel.address x.channel.network cause) x
    let searching (x : Device) : Device := { x with channel := { x.channel with
      reg := .searching, network := none, logon := none, lostPeriod := none, holdTimer := 0 } }
    let lost : Device := { d with channel := { d.channel with
      reg := .lost, logon := none, lossTimer := 300
      lostPeriod := some (match d.channel.lostPeriod with
        | some n => n + 1
        | none => 0) } }
    (on → ∀ o ∈ held, o.isOffered = true → o.count = 1 →
        Leaves (.offerWindowExpiry job) s (removeOffer .expired true o d))
    ∧ (on → ∀ o ∈ held, o.state = .bidding true (some 1) →
        Leaves (.awardDeadlineExpiry job) s (removeOffer .noAnswer true o d))
    ∧ (on → d.offers.answer = some 1 →
        Leaves .answerTimerExpiry s (notify (.zone .none .noAnswer)
          (askStatus { d with offers := { d.offers with booking := .none, answer := none } })))
    ∧ (on → d.ahead.track = false → d.emergency.track = some 1 →
        Leaves .trackTimerExpiry s { d with
          emergency := { d.emergency with track := some (10 * d.items.trackInterval) }
          uplink := { d.uplink with lane := .track report }
          ahead := { d.ahead with track := true } })
    ∧ (on → (d.uplink.entries.any ends) = true →
        Leaves .accountingHoldEnd s { d with
          uplink := { d.uplink with entries := d.uplink.entries.map ended }
          store := { d.store with records := d.store.records.map returned } })
    ∧ (on → d.ahead.channel = false → loss = true → d.channel.lossTimer = 299 ∨ d.channel.lossTimer = 300 →
        d.channel.lostPeriod ≠ some 1199 →
        Leaves .headerLossTimeout s (marked (told .loss
          (if d.channel.reg = .registered then revertInFlight lost else lost))))
    ∧ (on → d.ahead.channel = false → d.channel.lostPeriod = some 1199 →
        Leaves .lostPeriodExpiry s (marked (told .period (searching (forfeit d)))))
    ∧ (on → d.ahead.channel = false → d.channel.reg = .logonHold → d.channel.holdTimer = 1 →
        Leaves .holdTimerExpiry s (marked (told .hold (searching d))))
    ∧ (d.link.accepting = false ∨ (held.all fun o => !(o.isOffered && o.count == 1)) = true →
        exec (.offerWindowExpiry job) s = .next s)
    ∧ (d.link.accepting = false ∨ (held.all fun o => o.state != .bidding true (some 1)) = true →
        exec (.awardDeadlineExpiry job) s = .next s)
    ∧ (d.link.accepting = false ∨ d.offers.answer ≠ some 1 → exec .answerTimerExpiry s = .next s)
    ∧ (d.link.accepting = false ∨ d.ahead.track = true ∨ d.emergency.track ≠ some 1 →
        exec .trackTimerExpiry s = .next s)
    ∧ (d.link.accepting = false ∨ (d.uplink.entries.any ends) = false → exec .accountingHoldEnd s = .next s)
    ∧ (d.link.accepting = false ∨ d.ahead.channel = true ∨ loss = false ∨ d.channel.lossTimer < 299
          ∨ d.channel.lostPeriod = some 1199 → exec .headerLossTimeout s = .next s)
    ∧ (d.link.accepting = false ∨ d.ahead.channel = true ∨ d.channel.lostPeriod ≠ some 1199 →
        exec .lostPeriodExpiry s = .next s)
    ∧ (d.link.accepting = false ∨ d.ahead.channel = true ∨ d.channel.holdTimer ≠ 1 → exec .holdTimerExpiry s = .next s)


/-! ### The radio cycle (05, 06) -/

/-- The cycle's start and its header (R75, R76, R203). CYCLE_START discards the view and the plan and puts a message still
GRANTED back to WAITING with its record (log 15). The parts of a header come one by one; a block that is no good part, a
length outside 1..4, or a complete header that fails a check damages the header; a complete, consistent one is intact and
is the view, with the grants, the acknowledgements and the polls that can be used. A block that no part of the cab takes is
the due part or damages the header; no block is taken after a supply warning. The model's readings: a length outside 1..4
damages the header at part 0 (log 22), a grant or poll that is ignored names no slot (log 13), a holiday byte other than 01h
is clear (log 34), and the mark OWN and the address of the view are those after the header's judgement (log 14). -/
def Obligations.CyclesBeginWithTheirHeader : Prop :=
  ∀ (s : State) (block : List Byte), Lawful s.dev →
    let d := s.dev
    let on : Prop := d.link.accepting = true
    let granted : Bool := match d.uplink.inFlight with
      | some ⟨_, .granted _ _⟩ => true
      | _ => false
    let flies (r : Stored) : Bool := d.uplink.entries.any fun e => e.state == .inFlight && e.msg == recordMsg r
    let back (e : Entry) : Entry := if e.state = .inFlight then { e with state := .waiting } else e
    let marked (r : Stored) : Stored := if flies r then { r with mark := .waiting } else r
    let grounded : Device := if granted then { d with
      uplink := { d.uplink with inFlight := none, entries := d.uplink.entries.map back }
      store := { d.store with records := d.store.records.map marked } } else d
    let heard (x : HeaderRx) : State := { s with dev := { d with channel := { d.channel with headerRx := x } } }
    let collecting : Bool := match d.channel.headerRx with
      | .collecting _ => true
      | _ => false
    let parts : List (List Byte) := match d.channel.headerRx with
      | .collecting ps => ps ++ [block]
      | _ => []
    let good : Bool := decide (block.length = 24) && byteAt block 0 == 1 && field block 22 2 == crc16 (block.take 22)
    let p := parts.headD []
    let length := byteAt p 2
    let whole : Bool := (parts.zipIdx.all fun x => byteAt x.1 1 == x.2 && byteAt x.1 2 == length)
      && decide (4 * byteAt p 15 + 2 * byteAt p 16 + 3 * byteAt p 17 ≤ 4 + 19 * (length - 1)) && decide (1 ≤ byteAt p 5)
      && decide (1 ≤ byteAt p 13 ∧ byteAt p 13 ≤ 32) && decide (1 ≤ byteAt p 14 ∧ byteAt p 14 ≤ byteAt p 13)
      && decide (byteAt p 15 ≤ 8) && decide (byteAt p 16 ≤ 16) && decide (byteAt p 17 ≤ 4)
    exec .cycleStart s = .next { s with dev := { grounded with
      channel := { d.channel with view := none, headerRx := .collecting [] }
      uplink := { grounded.uplink with plan := none }
      radio := [] } }
    ∧ (on → collecting = true → good = false → exec (.headerPart block) s = .next (heard .damaged))
    ∧ (on → collecting = true → good = true → length < 1 ∨ 4 < length →
        exec (.headerPart block) s = .next (heard .damaged))
    ∧ (on → collecting = true → good = true → 1 ≤ length → length ≤ 4 → parts.length < length →
        exec (.headerPart block) s = .next (heard (.collecting parts)))
    ∧ (on → collecting = true → good = true → 1 ≤ length → length ≤ 4 → length ≤ parts.length → whole = false →
        exec (.headerPart block) s = .next (heard .damaged))
    ∧ (on → collecting = true → good = true → 1 ≤ length → length ≤ 4 → length ≤ parts.length → whole = true →
        let t := after (.headerPart block) s
        Completes (.headerPart block) s ∧ t.channel.headerRx = .intact ∧ t.channel.lastIntact = some (field p 3 2)
        ∧ t.channel.lastAccepted = d.items.acceptance.contains (field p 3 2)
        ∧ ∃ v ∈ t.channel.view,
            v.own = (t.channel.network == some (field p 3 2))
            ∧ v.address = (if v.own = true ∧ (t.channel.reg = .registered ∨ t.channel.reg = .barred)
                then t.channel.address else none)
            ∧ v.header.network = field p 3 2 ∧ v.header.level = byteAt p 5 ∧ v.header.cycle = byteAt p 6
            ∧ v.header.day = field p 7 2 ∧ v.header.second = field p 9 3 ∧ v.header.holiday = (byteAt p 12 == 1)
            ∧ v.header.slots = byteAt p 13 ∧ v.header.contention = byteAt p 14
            ∧ v.header.grants = standingGrants (readHeader parts) (readHeader parts).grants []
            ∧ v.header.acks = (readHeader parts).acks.filter (fun a => decide (1 ≤ a.address ∧ a.address ≤ 2000))
            ∧ v.header.polls =
                standingPolls (readHeader parts) (readHeader parts).polls (v.header.grants.flatMap Grant.slots))
    ∧ (on → good = true → exec (.downlinkBlockDiscarded block) s = exec (.headerPart block) s)
    ∧ (on → collecting = true → good = false → exec (.downlinkBlockDiscarded block) s = .next (heard .damaged))
    ∧ (on → collecting = false → good = false → exec (.downlinkBlockDiscarded block) s = .next s)
    ∧ (on → collecting = false → exec (.headerPart block) s = .next s)
    ∧ (d.link.accepting = false → exec (.headerPart block) s = .next s)
    ∧ (d.link.accepting = false → exec (.downlinkBlockDiscarded block) s = .next s)

/-- What a complete header does to the registration (R78, R80 to R83, R85, R86, R91): a SEARCHING or INCOMPATIBLE cab logs
on, waits for a set, or finds the network out of reach; a LOST cab that finds its network resumes with its address or logs
on without one; an OWN header of a level above 3 makes a registered or waiting cab INCOMPATIBLE; otherwise an OWN header
restarts the loss timer and, in LOGON_WAIT, judges the attempt: failed when four cycles or more have passed, a backoff
drawn and tested, the next attempt handed at its end, the hold after the eighth. A header that is not OWN changes nothing
in these states, and none does in LOGON_HOLD. A change of state or address is told by a REGISTRATION notice with cause
HEADER, or HOLD at the eighth failure, and nothing else is (R95). In REGISTERED the clock takes an OWN header's time when it
is UNSET or more than 1 s away, and then the holiday flag when the days agree, and the schedule is evaluated when either
changed (R53); in HIRED a new result sets or clears the pending tariff (R9, R70), but not one that names the tariff which the
tick just taken replaced (R36). The model's readings: the registration is judged before the clock, so an OWN header of a
level above 3 taken in REGISTERED moves no clock and makes no evaluation (log 14); an accepted header with no set in force
sends an INCOMPATIBLE cab to SEARCHING (log 19); a backoff tested at 0 is marked and ends before the plan (log 9); the
identity is noted where the logon is made (log 37); and how long an evaluation counts as met by the tick before it is
log 41. -/
def Obligations.HeadersAreJudged : Prop :=
  ∀ (s : State) (block : List Byte) (parts : List (List Byte)), Lawful s.dev →
    let d := s.dev
    let h := usableHeader (readHeader (parts ++ [block]))
    d.link.accepting = true → d.channel.headerRx = .collecting parts → collect parts block = .complete h →
    let c := d.channel
    let z := after (.headerPart block) s
    let t := z.channel
    let own : Bool := c.network == some h.network
    let level : Bool := decide (h.level ≤ 3)
    let accepted : Bool := d.items.acceptance.contains h.network
    let free : Bool := c.reg == .searching || c.reg == .incompatible
    let identity := (d.tariff.inForce.map TariffSet.identity).getD ⟨0, 0⟩
    let cycles (sent : Nat) : Nat := (h.cycle + 256 - sent % 256) % 256
    let wait := c.logon.map Logon.wait
    let attempt := (c.logon.map Logon.attempt).getD 0
    let expired : Bool := match wait with
      | some (.sent n) => decide (4 ≤ cycles n)
      | _ => false
    let drawn := Config.draw d.draws % 2 ^ min attempt 5
    let tested (n : Nat) : LogonWait := if n = 0 then .backoffDue else .backoff (n - 1)
    let out (l : Link) : List Notice := (match l.tx with
      | .notice n => [n]
      | _ => []) ++ l.notices
    let cal := d.vehicle.calendar
    let seconds (day second : Nat) : Nat := day * 86400 + second
    let moves : Bool := cal.time.all fun x => decide (seconds x.day x.second + 1 < seconds h.day h.second)
      || decide (seconds h.day h.second + 1 < seconds x.day x.second)
    let now : Option ClockTime := if moves then some ⟨h.day, h.second, 0⟩ else cal.time
    let holiday : Bool := if now.map ClockTime.day = some h.day then h.holiday else cal.holiday
    let handed : Bool := c.reg == .registered && own && level && decide (h.second < 86400)
    let evaluated : Bool := handed && (moves || holiday != cal.holiday)
    (free = true → accepted = false ∨ level = false →
        t.reg = .incompatible ∧ t.network = none ∧ t.logon = none)
    ∧ (free = true → accepted = true → level = true → d.tariff.inForce = none →
        t.reg = .searching ∧ t.network = none ∧ t.logon = none)
    ∧ (free = true → accepted = true → level = true → d.tariff.inForce ≠ none →
        t.reg = .logonWait ∧ t.network = some h.network ∧ t.logon = some ⟨.logon, 1, .handed⟩
        ∧ t.loggedOnAs = some identity ∧ t.lossTimer = 0 ∧ t.lostPeriod = c.lostPeriod)
    ∧ (c.reg = .lost → own = true → level = true →
        t.reg = .logonWait ∧ t.network = c.network ∧ t.address = c.address
        ∧ t.logon = some ⟨if c.address = none then .logon else .resume, 1, .handed⟩
        ∧ t.loggedOnAs = some identity ∧ t.lossTimer = 0 ∧ t.lostPeriod = c.lostPeriod)
    ∧ (c.reg = .lost ∨ c.reg = .registered ∨ c.reg = .logonWait → own = true → level = false →
        t.reg = .incompatible ∧ t.address = none ∧ t.network = none ∧ t.logon = none ∧ t.lostPeriod = none)
    ∧ (c.reg = .registered → own = true → level = true → { t with
          headerRx := c.headerRx, lastIntact := c.lastIntact, lastAccepted := c.lastAccepted, view := c.view } = { c with lossTimer := 0 })
    ∧ (c.reg = .barred → own = true → { t with
          headerRx := c.headerRx, lastIntact := c.lastIntact, lastAccepted := c.lastAccepted, view := c.view } = { c with lossTimer := 0 })
    ∧ (c.reg = .logonWait → own = true → level = true → expired = true → attempt < 8 →
        t.reg = .logonWait ∧ t.lossTimer = 0
        ∧ t.logon = c.logon.map (fun l => { l with wait := tested drawn }))
    ∧ (c.reg = .logonWait → own = true → level = true → expired = true → attempt = 8 →
        t.reg = .logonHold ∧ t.address = none ∧ t.logon = none ∧ t.holdTimer = 600 ∧ t.lostPeriod = none)
    ∧ (c.reg = .logonWait → own = true → level = true → wait = some .handed ∨ wait = some .backoffDue →
        t.reg = .logonWait ∧ t.lossTimer = 0 ∧ t.logon = c.logon.map (fun l =>
          if wait = some .handed then l else { l with attempt := l.attempt + 1, wait := .handed }))
    ∧ (c.reg = .logonWait → own = true → level = true → expired = false → wait ≠ some .handed → wait ≠ some .backoffDue →
        t.reg = .logonWait ∧ t.lossTimer = 0 ∧ t.logon = c.logon.map (fun l => { l with
          wait := match l.wait with
            | .backoff n => tested n
            | w => w }))
    ∧ (c.reg = .logonHold ∨ (free = false ∧ own = false) → { t with
          headerRx := c.headerRx, lastIntact := c.lastIntact, lastAccepted := c.lastAccepted, view := c.view } = c)
    ∧ (t.reg ≠ c.reg ∨ t.address ≠ c.address → d.link.notices.length ≤ 8 →
        (out z.link).contains
          (.registration t.reg t.address t.network (if t.reg = .logonHold then .hold else .header)) = true)
    ∧ (t.reg = c.reg → t.address = c.address →
        ((out z.link).all fun n => n.code != 0x41 || (out d.link).contains n) = true)
    ∧ z.vehicle.calendar = (if handed then ⟨now, holiday⟩ else cal)
    ∧ z.tariff.scheduled = (if evaluated then scheduleResult z else d.tariff.scheduled)
    ∧ z.meter.trip = (if evaluated && d.meter.state == .hired && scheduleResult z != d.tariff.scheduled
          && (scheduleResult z).all (fun n => d.meter.replaced != some n) then
          d.meter.trip.map (takeResult (scheduleResult z))
        else d.meter.trip)
    ∧ z.meter.replaced = (if evaluated && d.meter.state == .hired then none else d.meter.replaced)

/-- What an OWN header taken in REGISTERED does to the queue (R105, R110, R112 to R115), and every counted header to the
buffers (R78, R151). The message in flight is delivered when the header next after its sending acknowledges it, takes the
first adequate grant within five cycles of its request, waits four cycles for one, and otherwise its attempt fails: a
backoff drawn and tested at this header, and after the sixth failure an accounting entry held 600 ticks and any other
removed. The backoffs of the other entries are tested. A header that is not OWN, or not taken in REGISTERED, leaves them. The
model's readings: the registration is judged first, and the queue and the buffers follow with the network and the state
as they then stand (log 14), so an INCOMPATIBLE cab that joins the network of a header, or goes to SEARCHING at it for want
of a set (log 19), counts it, and a REGISTERED cab that an OWN header of a level above 3 makes INCOMPATIBLE does not; a
backoff tested at 0, and a buffer at 8 headers, are marked and end before the plan (log 9); a cycle difference of 0 in
GRANT_WAIT fails the attempt (log 23); and the entry of a message that ends leaves, and its room is offered, before the owner
is told (log 27). -/
def Obligations.HeadersReachTheQueue : Prop :=
  ∀ (s : State) (block : List Byte) (parts : List (List Byte)), Lawful s.dev →
    let d := s.dev
    let h := usableHeader (readHeader (parts ++ [block]))
    d.link.accepting = true → d.channel.headerRx = .collecting parts → collect parts block = .complete h →
    let u := d.uplink
    let t := after (.headerPart block) s
    let queued : Bool := d.channel.reg == .registered && d.channel.network == some h.network && decide (h.level ≤ 3)
    let flying : Option (FlightPhase × Entry) := u.inFlight.bind fun f => (u.entries.find? fun e => e.serial == f.serial).map fun e => (f.phase, e)
    let cycles (sent : Nat) : Nat := (h.cycle + 256 - sent % 256) % 256
    let mine (a : Nat) : Bool := d.channel.address == some a
    let adequate (e : Entry) : Option Grant := h.grants.find? fun g => mine g.address && decide (e.msg.blocks ≤ g.count)
    let acked (e : Entry) : Bool := h.acks.any fun a => mine a.address && some a.seq == e.seq
    let test (n : Nat) : EntryState := if n = 0 then .backoffDue else .backoff (n - 1)
    let tested (e : Entry) : Entry := match e.state with
      | .backoff n => { e with state := test n }
      | .backoffDue => { e with state := .waiting }
      | _ => e
    let done : Bool := flying.any fun x => match x.1 with
      | .ackWait n => cycles n == 1 && acked x.2
      | _ => false
    let taken : Option (Entry × Grant) := flying.bind fun x => match x.1 with
      | .grantWait n => if decide (1 ≤ cycles n) && decide (cycles n ≤ 5) then (adequate x.2).map fun g => (x.2, g) else none
      | _ => none
    let waits : Bool := flying.any fun x => match x.1 with
      | .grantWait n => (adequate x.2).isNone && decide (1 ≤ cycles n) && decide (cycles n ≤ 4)
      | .granted _ _ => true
      | .ackWait _ => false
    let counted : Bool := t.channel.network == some h.network
      || (t.channel.reg == .searching && d.items.acceptance.contains h.network)
    let older (b : Option Partial) : Option Partial :=
      (b.filter fun p => decide (p.headers < 8)).map fun p => { p with headers := p.headers + 1 }
    (queued = true → ∀ e ∈ u.entries, flying.map (fun x => x.2.serial) ≠ some e.serial → tested e ∈ t.uplink.entries)
    ∧ (queued = true → ∀ x ∈ flying, done = true →
        t.uplink.inFlight = none ∧ (∀ e ∈ t.uplink.entries, e.serial ≠ x.2.serial))
    ∧ (queued = true → ∀ x ∈ taken,
        t.uplink.inFlight = some ⟨x.1.serial, .granted x.2.first 0⟩ ∧ x.1 ∈ t.uplink.entries)
    ∧ (queued = true → ∀ x ∈ flying, waits = true → t.uplink.inFlight = u.inFlight ∧ x.2 ∈ t.uplink.entries)
    ∧ (queued = true → ∀ x ∈ flying, done = false → taken = none → waits = false → x.2.attempts < 5 →
        t.uplink.inFlight = none
        ∧ { x.2 with
            attempts := x.2.attempts + 1
            state := test (Config.draw d.draws % 2 ^ min (x.2.attempts + 1) 5) } ∈ t.uplink.entries)
    ∧ (queued = true → ∀ x ∈ flying, done = false → taken = none → waits = false → x.2.attempts = 5 →
        t.uplink.inFlight = none
        ∧ if x.2.msg.record.isSome = true then { x.2 with attempts := 6, state := .held 600 } ∈ t.uplink.entries
          else ∀ e ∈ t.uplink.entries, e.serial ≠ x.2.serial)
    ∧ (queued = false → d.channel.reg ≠ .registered ∨ d.channel.network ≠ some h.network →
        d.channel.address = none ∨ t.channel.address ≠ none → t.uplink = u)
    ∧ (counted = true → t.mail.first = older d.mail.first ∧ t.mail.second = older d.mail.second)
    ∧ (counted = false → t.mail.first = d.mail.first ∧ t.mail.second = d.mail.second)

/-- What an OWN header in REGISTERED tells the owner of the message that ends with it (R112, R114, R116). Delivered: the
notice; a BID's award deadline of 300 ticks (R132), a record removed (R21), the booking told and compared (R145), unmetered
owed cleared (R100), a reply or a receipt DELIVERED (R156, R158). Failed for the sixth time: the notice; the bid's entry
removed as NOT_DELIVERED, the record HELD (R115), the booking compared, the reply taken back, the receipt FAILED. A compare
that finds a difference asks for a STATUS, and one that finds the same BOOK_PENDING starts the answer timer. The model's
readings: a receipt that ends is set in whatever message has the number, and a reply that ends acts on the message only
while it is REPLIED (log 11); a REGISTERED cab that an OWN header of a level above 3 makes INCOMPATIBLE ends no message
(log 14); and the entry leaves and its room is offered before the owner is told and the notice is placed (log 27). -/
def Obligations.MessagesTellTheirOwners : Prop :=
  ∀ (s : State) (block : List Byte) (parts : List (List Byte)), Lawful s.dev →
    let d := s.dev
    let h := usableHeader (readHeader (parts ++ [block]))
    d.link.accepting = true → d.channel.headerRx = .collecting parts → collect parts block = .complete h →
    let u := d.uplink
    let z := after (.headerPart block) s
    let queued : Bool := d.channel.reg == .registered && d.channel.network == some h.network && decide (h.level ≤ 3)
    let flying : Option (FlightPhase × Entry) := u.inFlight.bind fun f => (u.entries.find? fun e => e.serial == f.serial).map fun e => (f.phase, e)
    let cycles (sent : Nat) : Nat := (h.cycle + 256 - sent % 256) % 256
    let mine (a : Nat) : Bool := d.channel.address == some a
    let adequate (e : Entry) : Option Grant := h.grants.find? fun g => mine g.address && decide (e.msg.blocks ≤ g.count)
    let acked (e : Entry) : Bool := h.acks.any fun a => mine a.address && some a.seq == e.seq
    let done : Bool := flying.any fun x => match x.1 with
      | .ackWait n => cycles n == 1 && acked x.2
      | _ => false
    let taken : Option (Entry × Grant) := flying.bind fun x => match x.1 with
      | .grantWait n => if decide (1 ≤ cycles n) && decide (cycles n ≤ 5) then (adequate x.2).map fun g => (x.2, g) else none
      | _ => none
    let waits : Bool := flying.any fun x => match x.1 with
      | .grantWait n => (adequate x.2).isNone && decide (1 ≤ cycles n) && decide (cycles n ≤ 4)
      | .granted _ _ => true
      | .ackWait _ => false
    let failed : Bool := !done && taken.isNone && !waits
    let out : List Notice := (match z.link.tx with
      | .notice n => [n]
      | _ => []) ++ z.link.notices
    let room := 16 - d.link.notices.length
    let same (a b : Booking) : Bool := match a, b with
      | .none, .none => true
      | .pending x, .pending y => x == y
      | .booked x _, .booked y _ => x == y
      | _, _ => false
    let compared (last : Booking) : Prop :=
      z.offers.lastTold = last ∧ z.offers.booking = d.offers.booking
      ∧ (same d.offers.booking last = false →
          ((z.uplink.entries.any fun y => y.msg == .status) || z.uplink.statusOwed) = true)
      ∧ z.offers.answer = (match d.offers.booking, last with
        | .pending a, .pending b => if a = b then d.offers.answer.or (some 300) else d.offers.answer
        | _, _ => d.offers.answer)
    let mailed (n : Nat) (f : Mail → Bool) : Bool := z.mail.mail.any fun m => m.number == n && f m
    (queued = true → ∀ x ∈ flying, done = true →
        (1 ≤ room → out.contains (.delivered x.2.msg x.2.seq) = true)
        ∧ z.uplink.unmeteredOwed = (u.unmeteredOwed && !(x.2.msg == .status && x.2.unmetered))
        ∧ (x.2.msg = .status → compared x.2.carried))
    ∧ (queued = true → ∀ x ∈ flying, done = true → ∀ o ∈ d.offers.entries, x.2.msg = .bid o.job →
        { o with state := .bidding true (some 300) } ∈ z.offers.entries)
    ∧ (queued = true → ∀ x ∈ flying, done = true → ∀ r ∈ d.store.records, x.2.msg = recordMsg r →
        z.store.records = d.store.records.filter fun y => y.number != r.number)
    ∧ (queued = true → ∀ x ∈ flying, done = true → ∀ m ∈ d.mail.mail, x.2.msg.answers = some m.number →
        m.state = .replied →
        mailed m.number (fun y => y.state == .replied && y.reply == m.reply.map fun r => (r.1, .delivered)) = true)
    ∧ (queued = true → ∀ x ∈ flying, done = true → ∀ m ∈ d.mail.mail, x.2.msg = .readReceipt m.number →
        mailed m.number (fun y => y.receipt == .delivered) = true)
    ∧ (queued = true → ∀ x ∈ flying, failed = true → x.2.attempts = 5 →
        (2 ≤ room → out.contains (.failed x.2.msg x.2.seq x.2.msg.record.isSome) = true)
        ∧ z.uplink.unmeteredOwed = u.unmeteredOwed
        ∧ (x.2.msg = .status → compared d.offers.lastTold))
    ∧ (queued = true → ∀ x ∈ flying, failed = true → x.2.attempts = 5 → ∀ o ∈ d.offers.entries, x.2.msg = .bid o.job →
        (∀ y ∈ z.offers.entries, y.job ≠ o.job)
        ∧ (2 ≤ room → out.contains (.offerRemoved o.job .notDelivered none) = true))
    ∧ (queued = true → ∀ x ∈ flying, failed = true → x.2.attempts = 5 → ∀ r ∈ d.store.records, x.2.msg = recordMsg r →
        { r with mark := .held } ∈ z.store.records)
    ∧ (queued = true → ∀ x ∈ flying, failed = true → x.2.attempts = 5 → ∀ m ∈ d.mail.mail,
        x.2.msg.answers = some m.number → m.state = .replied →
        mailed m.number (fun y => y.state == .read && y.reply == none) = true)
    ∧ (queued = true → ∀ x ∈ flying, failed = true → x.2.attempts = 5 → ∀ m ∈ d.mail.mail,
        x.2.msg = .readReceipt m.number → mailed m.number (fun y => y.receipt == .failed) = true)

/-- The uplink phase (R82, R105 to R108, R151). At its start the plan of a cycle with a view takes slot 0, the polls of a
REGISTERED cab in an OWN cycle, and one contention block: the lane's TRACK, else the handed logon, else the eligible entry
of the first class in the ranking, the oldest of it; in ROTATING mode the pointer moves past the class that wins. The slot
is drawn among the contention slots. Backoffs found at 0 by the header end first, as their own rows end them (log 9). The
model's readings: a poll is planned by the state at the phase's start, not at the header (log 45), and the view keeps the
mark OWN of its header (log 61). -/
def Obligations.UplinkPhaseMakesThePlan : Prop :=
  ∀ (s : State) (order : Nat) (b : BufferId), Lawful s.dev →
    let d := s.dev
    let u := d.uplink
    let on : Prop := d.link.accepting = true
    let ended (e : Entry) : Entry := if e.state = .backoffDue then { e with state := .waiting } else e
    let handed (l : Logon) : Logon :=
      if l.wait = .backoffDue then { l with attempt := l.attempt + 1, wait := .handed } else l
    let settled : Device := { d with
      channel := { d.channel with logon := d.channel.logon.map handed }
      uplink := { u with entries := u.entries.map ended } }
    let own : Bool := (d.channel.view.map CycleView.own).getD false
    let allowed : Bool := d.link.accepting && d.channel.reg == .registered && own
    let isTrack : Bool := match u.lane with
      | .track _ => d.link.accepting
      | _ => false
    let isLogon : Bool := d.link.accepting && d.channel.reg == .logonWait && own
      && settled.channel.logon.map Logon.wait == some .handed
    let rank (e : Entry) : Nat := match d.items.arbitration with
      | .fixed => e.msg.cls
      | .rotating => (e.msg.cls + 4 - u.pointer) % 4
    let can (e : Entry) : Bool := allowed && e.state == .waiting && u.inFlight.isNone
      && (e.msg.bidJob.isNone || d.emergency.state == .quiet)
    let entries := settled.uplink.entries
    let chosen : Option Entry := entries.find? fun e => can e && entries.all fun x => !can x || decide (rank e ≤ rank x)
    let moved : Nat := match d.items.arbitration, chosen with
      | .rotating, some e => if isTrack || isLogon then u.pointer else if e.msg.cls = 4 then 1 else e.msg.cls + 1
      | _, _ => u.pointer
    let use : Option ContentionUse :=
      if isTrack then some .track else if isLogon then some .logon else chosen.map fun e => .entry e.serial
    let young (x : Option Partial) : Option Partial := x.filter fun p => decide (p.headers < 8)
    (u.plan = none → ∀ v ∈ d.channel.view,
        let polls := if allowed then (v.header.polls.filter fun p => some p.address == v.address).map Poll.slot else []
        let slots := v.header.slots - v.header.contention
        exec .uplinkPhaseStart s = .next { s with dev :=
          if slots = 0 ∨ use = none then
            { settled with uplink := { settled.uplink with plan := some ⟨true, polls, none⟩ } }
          else { settled with
            draws := d.draws + 1
            uplink := { settled.uplink with
              pointer := moved
              plan := some ⟨true, polls, use.map fun x => (v.header.contention + Config.draw d.draws % slots, x)⟩ } } })
    ∧ (u.plan ≠ none ∨ d.channel.view = none → exec .uplinkPhaseStart s = .next s)
    ∧ (on → exec .logonBackoffEnd s = .next { s with dev :=
        { d with channel := { d.channel with logon := d.channel.logon.map handed } } })
    ∧ (on → exec (.backoffEnd order) s = .next { s with dev := { d with uplink := { u with
        entries := u.entries.map fun e => if e.order = order then ended e else e } } })
    ∧ (on → exec (.reassemblyTimeout .first) s = .next { s with dev :=
        { d with mail := { d.mail with first := young d.mail.first } } })
    ∧ (on → exec (.reassemblyTimeout .second) s = .next { s with dev :=
        { d with mail := { d.mail with second := young d.mail.second } } })
    ∧ (d.link.accepting = false → exec .logonBackoffEnd s = .next s)
    ∧ (d.link.accepting = false → exec (.backoffEnd order) s = .next s)
    ∧ (d.link.accepting = false → exec (.reassemblyTimeout b) s = .next s)

/-- The eighth law and the lane's slots (R117, R118, R120, R122, R173, R174). In slot 0 of a cycle with a view the lane's
EMERGENCY or CANCEL goes; in the first reserved slot of the cab in an OWN cycle, in REGISTERED or BARRED, the EMERGENCY
takes the place of the planned use, the poll unanswered and the transfer abandoned with its record WAITING again. The tenth
CANCEL ends the call. After a supply warning the block still goes and is not counted. The model's choices: CANCEL_LIMIT is
the sending of the tenth CANCEL in slot 0 (log 8); the list of the blocks sent in the cycle says whether a slot is free
(log 10); and the view keeps the mark OWN and the address of its header, also when the registered network is cleared in the
cycle (log 61). -/
def Obligations.LaneTakesItsSlots : Prop :=
  ∀ (s : State) (slot : Nat), Lawful s.dev →
    let d := s.dev
    let u := d.uplink
    let due : Bool := d.channel.view.isSome && (u.plan.map Plan.slotZero).getD false
    let cab := ((d.tariff.inForce.map TariffSet.identity).getD ⟨0, 0⟩).cab
    let address := d.channel.view.bind CycleView.address
    let sent (n : Nat) (c : Content) (x : Device) : Device := { x with radio := x.radio ++
      [⟨n, ⟨address.getD 0, if address = none then some cab else none, none, 0, 1, c⟩⟩] }
    let job := ((d.offers.entries.find? Offer.isActive).map Offer.job)
    let report : EmergencyReport :=
      ⟨cab, d.emergency.number, d.vehicle.fix.map fun f => ⟨f.latitude, f.longitude, f.quality, f.time, decide (300 < f.age)⟩,
       d.meter.state, tripMoney d, job⟩
    let zeroed : Device := { d with uplink := { u with plan := u.plan.map fun p => { p with slotZero := false } } }
    let alarm (x : Device) : Device :=
      if d.link.accepting then { x with emergency := { x.emergency with alarmSent := true } } else x
    let quiet (x : Device) : Device := notifyIf (!d.items.covert) (.emergency .cancelLimit .quiet d.emergency.number)
      { x with
        emergency := { x.emergency with state := .quiet, window := 0, alarmSent := false, cancelSent := 0, track := none }
        uplink := { x.uplink with lane := .empty } }
    let counted (x : Device) : Device :=
      if !d.link.accepting then x
      else if d.emergency.cancelSent < 9 then
        { x with emergency := { x.emergency with cancelSent := x.emergency.cancelSent + 1 } }
      else quiet x
    let withdrawn : Device := counted (sent 0 (.cancel cab d.emergency.number) zeroed)
    let ends (x : Device) : Device := if d.link.accepting then finish x else x
    let view := d.channel.view
    let named : List Nat := (view.map fun v =>
      ((v.header.grants.filter fun g => some g.address == v.address).flatMap fun g =>
          (List.range g.count).map fun i => g.first + i)
        ++ (v.header.polls.filter fun p => some p.address == v.address).map Poll.slot).getD []
    let steals : Bool := u.lane == .emergency && (view.map CycleView.own).getD false
      && (d.channel.reg == .registered || d.channel.reg == .barred)
      && named.contains slot && named.all (fun n => decide (slot ≤ n))
      && u.plan.isSome && !d.radio.any (fun x => x.slot == slot)
    let abandons : Bool := match u.inFlight with
      | some ⟨_, .granted first n⟩ => first == slot && n == 0
      | _ => false
    let flies (r : Stored) : Bool := u.entries.any fun e => e.state == .inFlight && e.msg == recordMsg r
    let unpolled : Device := { d with uplink := { u with
      plan := u.plan.map fun p => { p with polls := p.polls.filter fun n => n != slot } } }
    let abandoned : Device := if abandons then { unpolled with
      uplink := { unpolled.uplink with
        inFlight := none
        entries := u.entries.map fun e => if e.state = .inFlight then { e with state := .waiting } else e }
      store := { d.store with records := d.store.records.map fun r => if flies r then { r with mark := .waiting } else r } }
      else unpolled
    (due = true → u.lane = .emergency →
        exec .slotEmergency s = .next { s with dev := ends (alarm (sent 0 (.emergency report) zeroed)) })
    ∧ (due = true → u.lane = .cancel → exec .slotEmergency s = .next { s with dev := ends withdrawn })
    ∧ (due = true → u.lane ≠ .emergency → u.lane ≠ .cancel → exec .slotEmergency s = .next { s with dev := zeroed })
    ∧ (due = false → exec .slotEmergency s = .next s)
    ∧ (d.link.accepting = true → due = true → u.lane = .cancel → d.emergency.cancelSent = 9 →
        Leaves .cancelLimit s (quiet (sent 0 (.cancel cab d.emergency.number) zeroed)))
    ∧ (d.link.accepting = false ∨ due = false ∨ u.lane ≠ .cancel ∨ d.emergency.cancelSent ≠ 9 →
        exec .cancelLimit s = .next s)
    ∧ (steals = true →
        exec (.slotGranted slot) s = .next { s with dev := ends (alarm (sent slot (.emergency report) abandoned)) })
    ∧ (steals = true →
        exec (.slotPolled slot) s = .next { s with dev := ends (alarm (sent slot (.emergency report) abandoned)) })

/-- The blocks that wait for a slot of their own (R80, R86, R98, R100, R104, R107 to R111, R117, R119). The planned
contention block goes once: the TRACK, the logon attempt, or the chosen entry, which takes the next sequence that no entry
carries at its first transmission and goes whole, or as its SLOT_REQUEST; what may no longer go leaves the slot unused. A
granted slot carries the next block of the message, and after the last it waits for its acknowledgement. A polled slot is
answered with a STATUS, which clears what was owed and satisfies a STATUS entry that is not in flight. The model's readings:
a view without an address sends under address 0 with the identity (log 24), a SLOT_REQUEST has index 0 and count 1 with the
blocks needed in its content (log 44), a poll is answered by the state in the slot (log 45), the list of the blocks sent in
the cycle says whether a slot is free (log 10), and the view keeps the mark OWN and the address of its header (log 61). -/
def Obligations.SlotsCarryTheirBlocks : Prop :=
  ∀ (s : State) (slot : Nat), Lawful s.dev →
    let d := s.dev
    let u := d.uplink
    let view := d.channel.view
    let own : Bool := (view.map CycleView.own).getD false
    let allowed : Bool := d.link.accepting && d.channel.reg == .registered && own
    let cycle := (view.map fun v => v.header.cycle).getD 0
    let identity := (d.tariff.inForce.map TariffSet.identity).getD ⟨0, 0⟩
    let address := view.bind CycleView.address
    let sent (n : Nat) (seq : Option Nat) (index count : Nat) (c : Content) (x : Device) : Device := { x with
      radio := x.radio ++ [⟨n, ⟨address.getD 0, if address = none then some identity.cab else none, seq, index, count, c⟩⟩] }
    let planned := u.plan.bind Plan.contention
    let place := (planned.map Prod.fst).getD 0
    let used : Device := { d with uplink := { u with plan := u.plan.map fun p => { p with contention := none } } }
    let logonGoes : Bool := d.link.accepting && d.channel.reg == .logonWait && own
      && d.channel.logon.map Logon.wait == some .handed
    let content (k : LogonKind) : Content := match k with
      | .logon => .logon identity
      | .resume => .resume identity.cab (d.channel.address.getD 0)
    let entry : Option Entry := match planned with
      | some (_, .entry n) => (u.entries.find? fun e => e.serial == n).filter fun e =>
          allowed && e.state == .waiting && u.inFlight.isNone && (e.msg.bidJob.isNone || d.emergency.state == .quiet)
      | _ => none
    let fresh (n : Nat) : Bool := !u.entries.any fun e => e.seq == some n
    let next := (((List.range 16).map fun i => (u.nextSeq + i) % 16).find? fresh).getD u.nextSeq
    let status : Content := .status ⟨d.meter.state, tripMoney d, d.offers.booking, u.unmeteredOwed⟩
    let due : Option (Nat × Nat × Entry) := match u.inFlight with
      | some ⟨n, .granted first k⟩ =>
        if slot = first + k then (u.entries.find? fun e => e.serial == n).map fun e => (first, k, e) else none
      | _ => none
    let named : List Nat := (view.map fun v =>
      ((v.header.grants.filter fun g => some g.address == v.address).flatMap Grant.slots)
        ++ (v.header.polls.filter fun p => some p.address == v.address).map Poll.slot).getD []
    let steals : Bool := u.lane == .emergency && own && (d.channel.reg == .registered || d.channel.reg == .barred)
      && named.contains slot && named.all (fun n => decide (slot ≤ n))
    let isOpen : Bool := view.isSome && u.plan.isSome && !d.radio.any (fun x => x.slot == slot)
    let polled : Bool := ((u.plan.map Plan.polls).getD []).contains slot
    let emptied : Device := { used with uplink := { used.uplink with lane := .empty } }
    let tracked : Device := match u.lane with
      | .track r => sent place none 0 1 (.track r) emptied
      | _ => used
    let tried (l : Logon) : Device :=
      let waiting : Device := { used with channel := { used.channel with logon := some { l with wait := .sent cycle } } }
      if logonGoes then sent place none 0 1 (content l.kind) waiting else used
    (view.isSome = true → planned.map Prod.snd = some .track → d.link.accepting = true →
        exec .slotContention s = .next { s with dev := tracked })
    ∧ (view.isSome = true → planned.map Prod.snd = some .logon → ∀ l ∈ d.channel.logon,
        exec .slotContention s = .next { s with dev := tried l })
    ∧ (view.isSome = true → ∀ e ∈ entry,
        let q := e.seq.getD next
        let goes (x : Entry) : Entry := if x.serial ≠ e.serial then x else { x with
          seq := some q, state := .inFlight
          unmetered := if e.msg = .status then u.unmeteredOwed else x.unmetered
          carried := if e.msg = .status then d.offers.booking else x.carried }
        let single : Bool := e.msg.blocks == 1
        let flown : Device := { used with uplink := { used.uplink with
          entries := u.entries.map goes
          nextSeq := if e.seq = none then (q + 1) % 16 else u.nextSeq
          inFlight := some ⟨e.serial, if single then .ackWait cycle else .grantWait cycle⟩ } }
        let first : Content := if single then messageContent e.msg 0 d else .slotRequest e.msg.blocks
        exec .slotContention s = .next { s with dev := sent place (some q) 0 1 first flown })
    ∧ (view.isSome = true → entry = none → planned.map Prod.snd ≠ some .track → planned.map Prod.snd ≠ some .logon →
        exec .slotContention s = .next { s with dev := used })
    ∧ (view.isSome = false ∨ planned = none → exec .slotContention s = .next s)
    ∧ (isOpen = true → steals = false → allowed = true → ∀ x ∈ due,
        let k := x.2.1
        let e := x.2.2
        let last : Bool := decide (e.msg.blocks ≤ k + 1)
        let gone : Device := { d with
          store := { d.store with records := d.store.records.map fun r =>
            if k = 0 ∧ e.msg = recordMsg r then { r with mark := .inFlight } else r }
          uplink := { u with inFlight := some ⟨e.serial, if last then .ackWait cycle else .granted x.1 (k + 1)⟩ } }
        let left : Device := sent slot e.seq k e.msg.blocks (messageContent e.msg k d) gone
        exec (.slotGranted slot) s = .next { s with dev := left })
    ∧ (isOpen = true → steals = false → allowed = true → polled = true →
        let t := after (.slotPolled slot) s
        Completes (.slotPolled slot) s
        ∧ t.radio = (sent slot none 0 1 status d).radio
        ∧ t.uplink.plan.map Plan.polls = u.plan.map (fun p => p.polls.filter fun n => n != slot)
        ∧ t.uplink.unmeteredOwed = false ∧ t.offers.lastTold = d.offers.booking ∧ t.offers.booking = d.offers.booking
        ∧ (∀ e ∈ u.entries, e.state = .inFlight ∨ e.msg ≠ .status → e ∈ t.uplink.entries)
        ∧ (∀ e ∈ u.entries, e.state ≠ .inFlight → e.msg = .status → ∀ x ∈ t.uplink.entries, x.serial ≠ e.serial))
    ∧ (isOpen = false ∨ (steals = false ∧ (allowed = false ∨ due = none)) → exec (.slotGranted slot) s = .next s)
    ∧ (isOpen = false ∨ (steals = false ∧ (allowed = false ∨ polled = false)) → exec (.slotPolled slot) s = .next s)

end
end

