-- ==== Sys2Proof/Laws/Bytes.lean ====
section
/-! SUPPORT. Reading back what is laid out in bytes (R202), and the lengths of what the link and the radio send
(R192, R193, R202). -/

namespace Sys2Proof.Machine

open Sys2Proof

/-! ### Numbers in bytes -/

/-- A number takes as many bytes as its field has. -/
@[simp] theorem writeBytes_length (w n : Nat) : (writeBytes w n).length = w := by
  induction w with
  | zero => rfl
  | succ w ih => simp [writeBytes, ih]

/-- Reading goes on from the number read so far. -/
theorem readBytes_foldl (bs : List Byte) (a : Nat) :
    bs.foldl (fun n b => n * 256 + b.toNat) a = a * 256 ^ bs.length + readBytes bs := by
  induction bs generalizing a with
  | nil => simp [readBytes]
  | cons b bs ih =>
    simp only [List.foldl_cons, List.length_cons, readBytes, Nat.zero_mul, Nat.zero_add]
    rw [ih, ih b.toNat, Nat.pow_succ']
    ring

/-- The first byte is the most significant. -/
theorem readBytes_cons (b : Byte) (bs : List Byte) : readBytes (b :: bs) = b.toNat * 256 ^ bs.length + readBytes bs := by
  simp only [readBytes, List.foldl_cons, Nat.zero_mul, Nat.zero_add]
  exact readBytes_foldl bs b.toNat

/-- A number written into a field of `w` bytes is read back below 256 ^ w. -/
theorem readBytes_writeBytes (w n : Nat) : readBytes (writeBytes w n) = n % 256 ^ w := by
  induction w with
  | zero => simp [writeBytes, readBytes, Nat.mod_one]
  | succ w ih =>
    rw [writeBytes, readBytes_cons, ih, writeBytes_length, BitVec.toNat_ofNat, show 256 ^ (w + 1) = 256 ^ w * 256 from rfl, Nat.mod_mul (a := 256 ^ w) (b := 256),
      show 2 ^ 8 = 256 from rfl, Nat.mul_comm, Nat.add_comm]

/-- A filled-up field has its width. -/
@[simp] theorem padTo_length (w : Nat) (bs : List Byte) : (padTo w bs).length = w := by
  simp [padTo]

/-- A field that lies in the first of two runs of bytes. -/
theorem field_append_left (a b : List Byte) (start len : Nat) (h : start + len ≤ a.length) :
    field (a ++ b) start len = field a start len := by
  unfold field
  rw [List.drop_append_of_le_length (by omega), List.take_append_of_le_length (by simp; omega)]

/-- A field that lies in the second of two runs of bytes. -/
theorem field_append_right (a b : List Byte) (start len : Nat) (h : a.length ≤ start) :
    field (a ++ b) start len = field b (start - a.length) len := by
  unfold field
  rw [List.drop_append, List.drop_eq_nil_of_le h, List.nil_append]

/-! ### The CRC -/

/-- One bit step keeps the CRC within 16 bits. -/
theorem crcStep_lt {c : Nat} (h : c < 65536) : crcStep c < 65536 := by
  unfold crcStep
  split
  · next hc =>
    have key : ∀ x : BitVec 17, 65536 ≤ x.toNat → (x ^^^ 69665#17).toNat < 65536 := by
      intro x hx
      have hm : x.msb = true := by rw [BitVec.msb_eq_decide]; simpa using hx
      have : (x ^^^ 69665#17).msb = false := by rw [BitVec.msb_xor, hm]; decide
      rw [BitVec.msb_eq_decide] at this
      simpa using this
    have := key (BitVec.ofNat 17 (c * 2)) (by simp [BitVec.toNat_ofNat]; omega)
    rw [BitVec.toNat_xor, BitVec.toNat_ofNat, Nat.mod_eq_of_lt (by omega)] at this
    simpa using this
  · omega

/-- The CRC of a run of bytes fills its two bytes (R202). -/
theorem crc16_lt (bs : List Byte) : crc16 bs < 65536 := by
  have step (c : Nat) (b : Byte) (h : c < 65536) : crcByte c b < 65536 := by
    have : c ^^^ (b.toNat * 256) < 65536 := Nat.xor_lt_two_pow (n := 16) h (by have := b.isLt; omega)
    unfold crcByte
    exact crcStep_lt (crcStep_lt (crcStep_lt (crcStep_lt (crcStep_lt (crcStep_lt (crcStep_lt (crcStep_lt this)))))))
  have all (l : List Byte) : ∀ c, c < 65536 → l.foldl crcByte c < 65536 := by
    induction l with
    | nil => intro c h; exact h
    | cons b l ih => intro c h; exact ih _ (step c b h)
  exact all bs 65535 (by decide)

/-! ### The first bytes of what the link sends -/

/-- The kind of a reply to a request is the request's code plus 80h (12, Kind codes). -/
theorem replyKind_of_request {k : Byte} (h : k.toNat < 128) : replyKind k = BitVec.ofNat 8 (k.toNat + 128) := by
  simp [replyKind, h]

@[simp] theorem front_idle : Transmitter.idle.front = [] := rfl
@[simp] theorem front_reply (r : Reply) :
    (Transmitter.reply r).front = [replyKind r.kind, r.tag, r.result.code, r.indicator.code] := rfl
@[simp] theorem front_notice (n : Notice) : (Transmitter.notice n).front = [n.code, 0] := rfl

/-- The bytes being sent are the frame's, and none when nothing is sent (12, The host frame). -/
@[simp] theorem bytes_idle : Transmitter.idle.bytes = [] := rfl
@[simp] theorem bytes_reply (r : Reply) : (Transmitter.reply r).bytes = frameBytes r.frame := rfl
@[simp] theorem bytes_notice (n : Notice) : (Transmitter.notice n).bytes = frameBytes n.frame := rfl

/-- A frame takes its start byte, its length, its kind and tag, its body and its CRC. -/
@[simp] theorem frameBytes_length (f : Frame) : (frameBytes f).length = f.body.length + 6 := by
  simp [frameBytes]; try omega

/-- The data of a reply leaves room for its result and indicator in a body. -/
theorem replyData_bytes_length (x : ReplyData) : x.bytes.length ≤ 198 := by
  unfold ReplyData.bytes; split <;> simp

/-- A notice's fields fit in a body. -/
theorem notice_body_length (n : Notice) : n.body.length ≤ 200 := by
  unfold Notice.body; split <;> simp

/-! ### The content of a block -/

@[simp] theorem content_bytes_length (i : Option Nat) (c : Content) : (c.bytes i).length = 28 := by
  cases c <;> cases i <;> simp [Content.bytes]

@[simp] theorem front_length (b : UplinkBlock) : b.front.length = 6 := by simp [UplinkBlock.front]

@[simp] theorem block_bytes_length (b : UplinkBlock) : b.bytes.length = 36 := by simp [UplinkBlock.bytes]

/-- A record in the store is found by its number, and a block takes its part of the record's bytes. -/
theorem recordPart_of_find {n : Nat} {r : Stored} {d : Device}
    (h : (d.store.records.find? fun x => x.number == n) = some r) (k : Nat) :
    recordPart n k d = (r.bytes.drop (28 * k)).take 28 := by
  simp [recordPart, h]

end Sys2Proof.Machine
end

