-- ==== Sys2Proof/Laws/Decide.lean ====
section
/-! SUPPORT. Each law can be decided on a given part: one decision for each, from which a witness for a statement's
hypotheses is evaluated. -/

namespace Sys2Proof.Machine

open Sys2Proof

set_option maxRecDepth 4000
set_option synthInstance.maxHeartbeats 400000

def decSupply (d : Device) : Decidable (SupplyLaw d) := by unfold SupplyLaw; infer_instance
def decMeter (d : Device) : Decidable (MeterLaw d) := by unfold MeterLaw; infer_instance
def decClock (c : Calendar) : Decidable (ClockLaw c) := by unfold ClockLaw; infer_instance
def decVehicle (d : Device) : Decidable (VehicleLaw d) := by
  haveI := decClock; unfold VehicleLaw; infer_instance
def decItems (x : Items) : Decidable (ItemsLaw x) := by unfold ItemsLaw; infer_instance
def decBand (b : Band) : Decidable b.inRange := by unfold Band.inRange; infer_instance
def decSchedule (bs : List Band) : Decidable (ScheduleLaw bs) := by
  haveI := decBand; unfold ScheduleLaw; infer_instance
def decStaging (s : Staging) : Decidable (StagingLaw s) := by
  haveI := decSchedule; unfold StagingLaw; infer_instance
/-- Whether the checks of a staging set give this set. -/
def decChecked (s : Staging) (set : TariffSet) : Decidable (checkSet s = .ok set) :=
  match h : checkSet s with
  | .error _ => isFalse (by simp)
  | .ok x => if hx : x = set then isTrue (by rw [hx]) else isFalse (by simpa using hx)
def decSet (set : TariffSet) : Decidable (SetLaw set) := by
  haveI := decStaging; haveI := decChecked; unfold SetLaw; infer_instance
def decTariff (t : TariffStore) : Decidable (TariffLaw t) := by
  haveI := decSet; haveI := decStaging; unfold TariffLaw; infer_instance
def decAccumulator (set : TariffSet) (t : Trip) : Decidable (AccumulatorLaw set t) := by
  unfold AccumulatorLaw; infer_instance
def decTrip (set : TariffSet) (m : MeterState) (t : Trip) : Decidable (TripLaw set m t) := by
  haveI := decAccumulator; unfold TripLaw; infer_instance
def decFare (d : Device) : Decidable (FareLaw d) := by haveI := decTrip; unfold FareLaw; infer_instance
def decScope (a b c d e : Nat) : Decidable (ScopeLaw a b c d e) := by unfold ScopeLaw; infer_instance
def decDistance (d : Device) : Decidable (DistanceLaw d) := by
  haveI := decScope; unfold DistanceLaw; infer_instance
def decAtLeast (a b : Lifetime) : Decidable (Lifetime.atLeast a b) := by unfold Lifetime.atLeast; infer_instance
def decTotals (d : Device) : Decidable (TotalsLaw d) := by haveI := decAtLeast; unfold TotalsLaw; infer_instance
def decOffer (o : Offer) : Decidable (OfferShape o) := by
  unfold OfferShape
  rcases h : o.state with _ | _ | _ | _ <;> (dsimp only; infer_instance)
def decRoles (os : List Offer) : Decidable (RolesLaw os) := by unfold RolesLaw; infer_instance
def decOffers (d : Device) : Decidable (OfferLaw d) := by
  haveI := decRoles; haveI := decOffer; unfold OfferLaw; infer_instance
def decBids (d : Device) : Decidable (BidLaw d) := by unfold BidLaw; infer_instance
def decBooking (d : Device) : Decidable (BookingLaw d) := by unfold BookingLaw; infer_instance
def decEntry (e : Entry) : Decidable (EntryShape e) := by
  unfold EntryShape
  rcases h : e.state with _ | _ | _ | _ | _ <;> (dsimp only; infer_instance)
def decSeqs (a b : Entry) : Decidable (seqsDiffer a b) := by unfold seqsDiffer; infer_instance
def decQueue (d : Device) : Decidable (QueueLaw d) := by
  haveI := decEntry; haveI := decSeqs; unfold QueueLaw; infer_instance
def decStore (d : Device) : Decidable (StoreLaw d) := by unfold StoreLaw; infer_instance
def decPartial (p : Partial) : Decidable (PartialShape p) := by unfold PartialShape; infer_instance
def decMessage (d : Device) (m : Mail) : Decidable (MailShape d m) := by unfold MailShape; infer_instance
def decMail (d : Device) : Decidable (MailLaw d) := by
  haveI := decPartial; haveI := decMessage; unfold MailLaw; infer_instance
def decLane (d : Device) : Decidable (LaneLaw d) := by
  unfold LaneLaw
  rcases d.emergency.state with _ | _ | _ | _ <;> rcases d.uplink.lane with _ | _ | _ | _ <;> (dsimp only; infer_instance)
def decEmergency (d : Device) : Decidable (EmergencyLaw d) := by
  haveI := decLane; unfold EmergencyLaw; infer_instance
def decRegistration (d : Device) : Decidable (RegistrationLaw d) := by
  unfold RegistrationLaw
  rcases h : d.channel.reg with _ | _ | _ | _ | _ | _ | _ <;> (dsimp only; infer_instance)
def decTrue (d : Device) : Decidable (SignTrue d) := by unfold SignTrue; infer_instance
def decSign (d : Device) : Decidable (SignLaw d) := by haveI := decTrue; unfold SignLaw; infer_instance
def decLink (l : Link) : Decidable (LinkLaw l) := by unfold LinkLaw; infer_instance

/-- Whether a part is lawful, law by law. -/
def decLawful (d : Device) : Decidable (Lawful d) :=
  haveI := decSupply d; haveI := decMeter d; haveI := decVehicle d; haveI := decItems d.items
  haveI := decTariff d.tariff; haveI := decFare d; haveI := decDistance d; haveI := decTotals d
  haveI := decOffers d; haveI := decBids d; haveI := decBooking d; haveI := decQueue d; haveI := decStore d
  haveI := decMail d; haveI := decEmergency d; haveI := decRegistration d; haveI := decSign d; haveI := decLink d.link
  decidable_of_iff
    ((SupplyLaw d ∧ MeterLaw d ∧ VehicleLaw d ∧ ItemsLaw d.items ∧ TariffLaw d.tariff ∧ FareLaw d)
      ∧ (DistanceLaw d ∧ TotalsLaw d ∧ OfferLaw d ∧ BidLaw d ∧ BookingLaw d ∧ QueueLaw d)
      ∧ StoreLaw d ∧ MailLaw d ∧ EmergencyLaw d ∧ RegistrationLaw d ∧ SignLaw d ∧ LinkLaw d.link)
    ⟨fun ⟨⟨a, b, c, e, f, g⟩, ⟨h, i, j, k, l, m⟩, n, o, p, q, r, s⟩ =>
        ⟨a, b, c, e, f, g, h, i, j, k, l, m, n, o, p, q, r, s⟩,
      fun ⟨a, b, c, e, f, g, h, i, j, k, l, m, n, o, p, q, r, s⟩ =>
        ⟨⟨a, b, c, e, f, g⟩, ⟨h, i, j, k, l, m⟩, n, o, p, q, r, s⟩⟩

/-- Whether the link can take a request at once. -/
def decReady (d : Device) : Decidable (LinkReady d) := by unfold LinkReady; infer_instance
/-- Whether a downlink block is taken. -/
def decTaken (c : Instr) (d : Device) : Decidable (Taken c d) := by unfold Taken; infer_instance

end Sys2Proof.Machine
end

