-- ==== Sys2Proof/Laws/State.lean ====
section
/-! SUPPORT. One lemma per block per named update: an update that writes one block of the part leaves every other block as
it was. Each is true by rfl. -/

namespace Sys2Proof.Machine

open Sys2Proof

@[simp] theorem onSticky_pins (f : Sticky → Sticky) (d : Device) : (onSticky f d).pins = d.pins := rfl
@[simp] theorem onSticky_vehicle (f : Sticky → Sticky) (d : Device) : (onSticky f d).vehicle = d.vehicle := rfl
@[simp] theorem onSticky_tariff (f : Sticky → Sticky) (d : Device) : (onSticky f d).tariff = d.tariff := rfl
@[simp] theorem onSticky_meter (f : Sticky → Sticky) (d : Device) : (onSticky f d).meter = d.meter := rfl
@[simp] theorem onSticky_store (f : Sticky → Sticky) (d : Device) : (onSticky f d).store = d.store := rfl
@[simp] theorem onSticky_channel (f : Sticky → Sticky) (d : Device) : (onSticky f d).channel = d.channel := rfl
@[simp] theorem onSticky_uplink (f : Sticky → Sticky) (d : Device) : (onSticky f d).uplink = d.uplink := rfl
@[simp] theorem onSticky_offers (f : Sticky → Sticky) (d : Device) : (onSticky f d).offers = d.offers := rfl
@[simp] theorem onSticky_mail (f : Sticky → Sticky) (d : Device) : (onSticky f d).mail = d.mail := rfl
@[simp] theorem onSticky_emergency (f : Sticky → Sticky) (d : Device) : (onSticky f d).emergency = d.emergency := rfl
@[simp] theorem onSticky_sign (f : Sticky → Sticky) (d : Device) : (onSticky f d).sign = d.sign := rfl
@[simp] theorem onSticky_items (f : Sticky → Sticky) (d : Device) : (onSticky f d).items = d.items := rfl
@[simp] theorem onSticky_backed (f : Sticky → Sticky) (d : Device) : (onSticky f d).backed = d.backed := rfl
@[simp] theorem onSticky_radio (f : Sticky → Sticky) (d : Device) : (onSticky f d).radio = d.radio := rfl
@[simp] theorem onSticky_ahead (f : Sticky → Sticky) (d : Device) : (onSticky f d).ahead = d.ahead := rfl
@[simp] theorem onSticky_draws (f : Sticky → Sticky) (d : Device) : (onSticky f d).draws = d.draws := rfl

@[simp] theorem setLinkOverrun_pins  (d : Device) : (setLinkOverrun d).pins = d.pins := rfl
@[simp] theorem setLinkOverrun_vehicle  (d : Device) : (setLinkOverrun d).vehicle = d.vehicle := rfl
@[simp] theorem setLinkOverrun_tariff  (d : Device) : (setLinkOverrun d).tariff = d.tariff := rfl
@[simp] theorem setLinkOverrun_meter  (d : Device) : (setLinkOverrun d).meter = d.meter := rfl
@[simp] theorem setLinkOverrun_store  (d : Device) : (setLinkOverrun d).store = d.store := rfl
@[simp] theorem setLinkOverrun_channel  (d : Device) : (setLinkOverrun d).channel = d.channel := rfl
@[simp] theorem setLinkOverrun_uplink  (d : Device) : (setLinkOverrun d).uplink = d.uplink := rfl
@[simp] theorem setLinkOverrun_offers  (d : Device) : (setLinkOverrun d).offers = d.offers := rfl
@[simp] theorem setLinkOverrun_mail  (d : Device) : (setLinkOverrun d).mail = d.mail := rfl
@[simp] theorem setLinkOverrun_emergency  (d : Device) : (setLinkOverrun d).emergency = d.emergency := rfl
@[simp] theorem setLinkOverrun_sign  (d : Device) : (setLinkOverrun d).sign = d.sign := rfl
@[simp] theorem setLinkOverrun_items  (d : Device) : (setLinkOverrun d).items = d.items := rfl
@[simp] theorem setLinkOverrun_backed  (d : Device) : (setLinkOverrun d).backed = d.backed := rfl
@[simp] theorem setLinkOverrun_radio  (d : Device) : (setLinkOverrun d).radio = d.radio := rfl
@[simp] theorem setLinkOverrun_ahead  (d : Device) : (setLinkOverrun d).ahead = d.ahead := rfl
@[simp] theorem setLinkOverrun_draws  (d : Device) : (setLinkOverrun d).draws = d.draws := rfl

@[simp] theorem setNoticeLost_pins  (d : Device) : (setNoticeLost d).pins = d.pins := rfl
@[simp] theorem setNoticeLost_vehicle  (d : Device) : (setNoticeLost d).vehicle = d.vehicle := rfl
@[simp] theorem setNoticeLost_tariff  (d : Device) : (setNoticeLost d).tariff = d.tariff := rfl
@[simp] theorem setNoticeLost_meter  (d : Device) : (setNoticeLost d).meter = d.meter := rfl
@[simp] theorem setNoticeLost_store  (d : Device) : (setNoticeLost d).store = d.store := rfl
@[simp] theorem setNoticeLost_channel  (d : Device) : (setNoticeLost d).channel = d.channel := rfl
@[simp] theorem setNoticeLost_uplink  (d : Device) : (setNoticeLost d).uplink = d.uplink := rfl
@[simp] theorem setNoticeLost_offers  (d : Device) : (setNoticeLost d).offers = d.offers := rfl
@[simp] theorem setNoticeLost_mail  (d : Device) : (setNoticeLost d).mail = d.mail := rfl
@[simp] theorem setNoticeLost_emergency  (d : Device) : (setNoticeLost d).emergency = d.emergency := rfl
@[simp] theorem setNoticeLost_sign  (d : Device) : (setNoticeLost d).sign = d.sign := rfl
@[simp] theorem setNoticeLost_items  (d : Device) : (setNoticeLost d).items = d.items := rfl
@[simp] theorem setNoticeLost_backed  (d : Device) : (setNoticeLost d).backed = d.backed := rfl
@[simp] theorem setNoticeLost_radio  (d : Device) : (setNoticeLost d).radio = d.radio := rfl
@[simp] theorem setNoticeLost_ahead  (d : Device) : (setNoticeLost d).ahead = d.ahead := rfl
@[simp] theorem setNoticeLost_draws  (d : Device) : (setNoticeLost d).draws = d.draws := rfl

@[simp] theorem setSensorFault_pins  (d : Device) : (setSensorFault d).pins = d.pins := rfl
@[simp] theorem setSensorFault_vehicle  (d : Device) : (setSensorFault d).vehicle = d.vehicle := rfl
@[simp] theorem setSensorFault_tariff  (d : Device) : (setSensorFault d).tariff = d.tariff := rfl
@[simp] theorem setSensorFault_meter  (d : Device) : (setSensorFault d).meter = d.meter := rfl
@[simp] theorem setSensorFault_store  (d : Device) : (setSensorFault d).store = d.store := rfl
@[simp] theorem setSensorFault_channel  (d : Device) : (setSensorFault d).channel = d.channel := rfl
@[simp] theorem setSensorFault_uplink  (d : Device) : (setSensorFault d).uplink = d.uplink := rfl
@[simp] theorem setSensorFault_offers  (d : Device) : (setSensorFault d).offers = d.offers := rfl
@[simp] theorem setSensorFault_mail  (d : Device) : (setSensorFault d).mail = d.mail := rfl
@[simp] theorem setSensorFault_emergency  (d : Device) : (setSensorFault d).emergency = d.emergency := rfl
@[simp] theorem setSensorFault_sign  (d : Device) : (setSensorFault d).sign = d.sign := rfl
@[simp] theorem setSensorFault_items  (d : Device) : (setSensorFault d).items = d.items := rfl
@[simp] theorem setSensorFault_backed  (d : Device) : (setSensorFault d).backed = d.backed := rfl
@[simp] theorem setSensorFault_radio  (d : Device) : (setSensorFault d).radio = d.radio := rfl
@[simp] theorem setSensorFault_ahead  (d : Device) : (setSensorFault d).ahead = d.ahead := rfl
@[simp] theorem setSensorFault_draws  (d : Device) : (setSensorFault d).draws = d.draws := rfl

@[simp] theorem setDistanceImplausible_pins  (d : Device) : (setDistanceImplausible d).pins = d.pins := rfl
@[simp] theorem setDistanceImplausible_vehicle  (d : Device) : (setDistanceImplausible d).vehicle = d.vehicle := rfl
@[simp] theorem setDistanceImplausible_tariff  (d : Device) : (setDistanceImplausible d).tariff = d.tariff := rfl
@[simp] theorem setDistanceImplausible_meter  (d : Device) : (setDistanceImplausible d).meter = d.meter := rfl
@[simp] theorem setDistanceImplausible_store  (d : Device) : (setDistanceImplausible d).store = d.store := rfl
@[simp] theorem setDistanceImplausible_channel  (d : Device) : (setDistanceImplausible d).channel = d.channel := rfl
@[simp] theorem setDistanceImplausible_uplink  (d : Device) : (setDistanceImplausible d).uplink = d.uplink := rfl
@[simp] theorem setDistanceImplausible_offers  (d : Device) : (setDistanceImplausible d).offers = d.offers := rfl
@[simp] theorem setDistanceImplausible_mail  (d : Device) : (setDistanceImplausible d).mail = d.mail := rfl
@[simp] theorem setDistanceImplausible_emergency  (d : Device) : (setDistanceImplausible d).emergency = d.emergency := rfl
@[simp] theorem setDistanceImplausible_sign  (d : Device) : (setDistanceImplausible d).sign = d.sign := rfl
@[simp] theorem setDistanceImplausible_items  (d : Device) : (setDistanceImplausible d).items = d.items := rfl
@[simp] theorem setDistanceImplausible_backed  (d : Device) : (setDistanceImplausible d).backed = d.backed := rfl
@[simp] theorem setDistanceImplausible_radio  (d : Device) : (setDistanceImplausible d).radio = d.radio := rfl
@[simp] theorem setDistanceImplausible_ahead  (d : Device) : (setDistanceImplausible d).ahead = d.ahead := rfl
@[simp] theorem setDistanceImplausible_draws  (d : Device) : (setDistanceImplausible d).draws = d.draws := rfl

@[simp] theorem setLoadAborted_pins  (d : Device) : (setLoadAborted d).pins = d.pins := rfl
@[simp] theorem setLoadAborted_vehicle  (d : Device) : (setLoadAborted d).vehicle = d.vehicle := rfl
@[simp] theorem setLoadAborted_tariff  (d : Device) : (setLoadAborted d).tariff = d.tariff := rfl
@[simp] theorem setLoadAborted_meter  (d : Device) : (setLoadAborted d).meter = d.meter := rfl
@[simp] theorem setLoadAborted_store  (d : Device) : (setLoadAborted d).store = d.store := rfl
@[simp] theorem setLoadAborted_channel  (d : Device) : (setLoadAborted d).channel = d.channel := rfl
@[simp] theorem setLoadAborted_uplink  (d : Device) : (setLoadAborted d).uplink = d.uplink := rfl
@[simp] theorem setLoadAborted_offers  (d : Device) : (setLoadAborted d).offers = d.offers := rfl
@[simp] theorem setLoadAborted_mail  (d : Device) : (setLoadAborted d).mail = d.mail := rfl
@[simp] theorem setLoadAborted_emergency  (d : Device) : (setLoadAborted d).emergency = d.emergency := rfl
@[simp] theorem setLoadAborted_sign  (d : Device) : (setLoadAborted d).sign = d.sign := rfl
@[simp] theorem setLoadAborted_items  (d : Device) : (setLoadAborted d).items = d.items := rfl
@[simp] theorem setLoadAborted_backed  (d : Device) : (setLoadAborted d).backed = d.backed := rfl
@[simp] theorem setLoadAborted_radio  (d : Device) : (setLoadAborted d).radio = d.radio := rfl
@[simp] theorem setLoadAborted_ahead  (d : Device) : (setLoadAborted d).ahead = d.ahead := rfl
@[simp] theorem setLoadAborted_draws  (d : Device) : (setLoadAborted d).draws = d.draws := rfl

@[simp] theorem setMailDropped_pins  (d : Device) : (setMailDropped d).pins = d.pins := rfl
@[simp] theorem setMailDropped_vehicle  (d : Device) : (setMailDropped d).vehicle = d.vehicle := rfl
@[simp] theorem setMailDropped_tariff  (d : Device) : (setMailDropped d).tariff = d.tariff := rfl
@[simp] theorem setMailDropped_meter  (d : Device) : (setMailDropped d).meter = d.meter := rfl
@[simp] theorem setMailDropped_store  (d : Device) : (setMailDropped d).store = d.store := rfl
@[simp] theorem setMailDropped_channel  (d : Device) : (setMailDropped d).channel = d.channel := rfl
@[simp] theorem setMailDropped_uplink  (d : Device) : (setMailDropped d).uplink = d.uplink := rfl
@[simp] theorem setMailDropped_offers  (d : Device) : (setMailDropped d).offers = d.offers := rfl
@[simp] theorem setMailDropped_mail  (d : Device) : (setMailDropped d).mail = d.mail := rfl
@[simp] theorem setMailDropped_emergency  (d : Device) : (setMailDropped d).emergency = d.emergency := rfl
@[simp] theorem setMailDropped_sign  (d : Device) : (setMailDropped d).sign = d.sign := rfl
@[simp] theorem setMailDropped_items  (d : Device) : (setMailDropped d).items = d.items := rfl
@[simp] theorem setMailDropped_backed  (d : Device) : (setMailDropped d).backed = d.backed := rfl
@[simp] theorem setMailDropped_radio  (d : Device) : (setMailDropped d).radio = d.radio := rfl
@[simp] theorem setMailDropped_ahead  (d : Device) : (setMailDropped d).ahead = d.ahead := rfl
@[simp] theorem setMailDropped_draws  (d : Device) : (setMailDropped d).draws = d.draws := rfl

@[simp] theorem setRecordDisplaced_pins  (d : Device) : (setRecordDisplaced d).pins = d.pins := rfl
@[simp] theorem setRecordDisplaced_vehicle  (d : Device) : (setRecordDisplaced d).vehicle = d.vehicle := rfl
@[simp] theorem setRecordDisplaced_tariff  (d : Device) : (setRecordDisplaced d).tariff = d.tariff := rfl
@[simp] theorem setRecordDisplaced_meter  (d : Device) : (setRecordDisplaced d).meter = d.meter := rfl
@[simp] theorem setRecordDisplaced_store  (d : Device) : (setRecordDisplaced d).store = d.store := rfl
@[simp] theorem setRecordDisplaced_channel  (d : Device) : (setRecordDisplaced d).channel = d.channel := rfl
@[simp] theorem setRecordDisplaced_uplink  (d : Device) : (setRecordDisplaced d).uplink = d.uplink := rfl
@[simp] theorem setRecordDisplaced_offers  (d : Device) : (setRecordDisplaced d).offers = d.offers := rfl
@[simp] theorem setRecordDisplaced_mail  (d : Device) : (setRecordDisplaced d).mail = d.mail := rfl
@[simp] theorem setRecordDisplaced_emergency  (d : Device) : (setRecordDisplaced d).emergency = d.emergency := rfl
@[simp] theorem setRecordDisplaced_sign  (d : Device) : (setRecordDisplaced d).sign = d.sign := rfl
@[simp] theorem setRecordDisplaced_items  (d : Device) : (setRecordDisplaced d).items = d.items := rfl
@[simp] theorem setRecordDisplaced_backed  (d : Device) : (setRecordDisplaced d).backed = d.backed := rfl
@[simp] theorem setRecordDisplaced_radio  (d : Device) : (setRecordDisplaced d).radio = d.radio := rfl
@[simp] theorem setRecordDisplaced_ahead  (d : Device) : (setRecordDisplaced d).ahead = d.ahead := rfl
@[simp] theorem setRecordDisplaced_draws  (d : Device) : (setRecordDisplaced d).draws = d.draws := rfl

@[simp] theorem onTrip_pins (f : Trip → Trip) (d : Device) : (onTrip f d).pins = d.pins := rfl
@[simp] theorem onTrip_vehicle (f : Trip → Trip) (d : Device) : (onTrip f d).vehicle = d.vehicle := rfl
@[simp] theorem onTrip_tariff (f : Trip → Trip) (d : Device) : (onTrip f d).tariff = d.tariff := rfl
@[simp] theorem onTrip_store (f : Trip → Trip) (d : Device) : (onTrip f d).store = d.store := rfl
@[simp] theorem onTrip_channel (f : Trip → Trip) (d : Device) : (onTrip f d).channel = d.channel := rfl
@[simp] theorem onTrip_uplink (f : Trip → Trip) (d : Device) : (onTrip f d).uplink = d.uplink := rfl
@[simp] theorem onTrip_offers (f : Trip → Trip) (d : Device) : (onTrip f d).offers = d.offers := rfl
@[simp] theorem onTrip_mail (f : Trip → Trip) (d : Device) : (onTrip f d).mail = d.mail := rfl
@[simp] theorem onTrip_emergency (f : Trip → Trip) (d : Device) : (onTrip f d).emergency = d.emergency := rfl
@[simp] theorem onTrip_sign (f : Trip → Trip) (d : Device) : (onTrip f d).sign = d.sign := rfl
@[simp] theorem onTrip_link (f : Trip → Trip) (d : Device) : (onTrip f d).link = d.link := rfl
@[simp] theorem onTrip_items (f : Trip → Trip) (d : Device) : (onTrip f d).items = d.items := rfl
@[simp] theorem onTrip_backed (f : Trip → Trip) (d : Device) : (onTrip f d).backed = d.backed := rfl
@[simp] theorem onTrip_radio (f : Trip → Trip) (d : Device) : (onTrip f d).radio = d.radio := rfl
@[simp] theorem onTrip_ahead (f : Trip → Trip) (d : Device) : (onTrip f d).ahead = d.ahead := rfl
@[simp] theorem onTrip_draws (f : Trip → Trip) (d : Device) : (onTrip f d).draws = d.draws := rfl

@[simp] theorem setReplaced_pins (n : Option Nat) (d : Device) : (setReplaced n d).pins = d.pins := rfl
@[simp] theorem setReplaced_vehicle (n : Option Nat) (d : Device) : (setReplaced n d).vehicle = d.vehicle := rfl
@[simp] theorem setReplaced_tariff (n : Option Nat) (d : Device) : (setReplaced n d).tariff = d.tariff := rfl
@[simp] theorem setReplaced_store (n : Option Nat) (d : Device) : (setReplaced n d).store = d.store := rfl
@[simp] theorem setReplaced_channel (n : Option Nat) (d : Device) : (setReplaced n d).channel = d.channel := rfl
@[simp] theorem setReplaced_uplink (n : Option Nat) (d : Device) : (setReplaced n d).uplink = d.uplink := rfl
@[simp] theorem setReplaced_offers (n : Option Nat) (d : Device) : (setReplaced n d).offers = d.offers := rfl
@[simp] theorem setReplaced_mail (n : Option Nat) (d : Device) : (setReplaced n d).mail = d.mail := rfl
@[simp] theorem setReplaced_emergency (n : Option Nat) (d : Device) : (setReplaced n d).emergency = d.emergency := rfl
@[simp] theorem setReplaced_sign (n : Option Nat) (d : Device) : (setReplaced n d).sign = d.sign := rfl
@[simp] theorem setReplaced_link (n : Option Nat) (d : Device) : (setReplaced n d).link = d.link := rfl
@[simp] theorem setReplaced_items (n : Option Nat) (d : Device) : (setReplaced n d).items = d.items := rfl
@[simp] theorem setReplaced_backed (n : Option Nat) (d : Device) : (setReplaced n d).backed = d.backed := rfl
@[simp] theorem setReplaced_radio (n : Option Nat) (d : Device) : (setReplaced n d).radio = d.radio := rfl
@[simp] theorem setReplaced_ahead (n : Option Nat) (d : Device) : (setReplaced n d).ahead = d.ahead := rfl
@[simp] theorem setReplaced_draws (n : Option Nat) (d : Device) : (setReplaced n d).draws = d.draws := rfl

@[simp] theorem onShift_pins (f : Shift → Shift) (d : Device) : (onShift f d).pins = d.pins := rfl
@[simp] theorem onShift_vehicle (f : Shift → Shift) (d : Device) : (onShift f d).vehicle = d.vehicle := rfl
@[simp] theorem onShift_tariff (f : Shift → Shift) (d : Device) : (onShift f d).tariff = d.tariff := rfl
@[simp] theorem onShift_store (f : Shift → Shift) (d : Device) : (onShift f d).store = d.store := rfl
@[simp] theorem onShift_channel (f : Shift → Shift) (d : Device) : (onShift f d).channel = d.channel := rfl
@[simp] theorem onShift_uplink (f : Shift → Shift) (d : Device) : (onShift f d).uplink = d.uplink := rfl
@[simp] theorem onShift_offers (f : Shift → Shift) (d : Device) : (onShift f d).offers = d.offers := rfl
@[simp] theorem onShift_mail (f : Shift → Shift) (d : Device) : (onShift f d).mail = d.mail := rfl
@[simp] theorem onShift_emergency (f : Shift → Shift) (d : Device) : (onShift f d).emergency = d.emergency := rfl
@[simp] theorem onShift_sign (f : Shift → Shift) (d : Device) : (onShift f d).sign = d.sign := rfl
@[simp] theorem onShift_link (f : Shift → Shift) (d : Device) : (onShift f d).link = d.link := rfl
@[simp] theorem onShift_items (f : Shift → Shift) (d : Device) : (onShift f d).items = d.items := rfl
@[simp] theorem onShift_backed (f : Shift → Shift) (d : Device) : (onShift f d).backed = d.backed := rfl
@[simp] theorem onShift_radio (f : Shift → Shift) (d : Device) : (onShift f d).radio = d.radio := rfl
@[simp] theorem onShift_ahead (f : Shift → Shift) (d : Device) : (onShift f d).ahead = d.ahead := rfl
@[simp] theorem onShift_draws (f : Shift → Shift) (d : Device) : (onShift f d).draws = d.draws := rfl

@[simp] theorem onLifetime_pins (f : Lifetime → Lifetime) (d : Device) : (onLifetime f d).pins = d.pins := rfl
@[simp] theorem onLifetime_vehicle (f : Lifetime → Lifetime) (d : Device) : (onLifetime f d).vehicle = d.vehicle := rfl
@[simp] theorem onLifetime_meter (f : Lifetime → Lifetime) (d : Device) : (onLifetime f d).meter = d.meter := rfl
@[simp] theorem onLifetime_store (f : Lifetime → Lifetime) (d : Device) : (onLifetime f d).store = d.store := rfl
@[simp] theorem onLifetime_channel (f : Lifetime → Lifetime) (d : Device) : (onLifetime f d).channel = d.channel := rfl
@[simp] theorem onLifetime_uplink (f : Lifetime → Lifetime) (d : Device) : (onLifetime f d).uplink = d.uplink := rfl
@[simp] theorem onLifetime_offers (f : Lifetime → Lifetime) (d : Device) : (onLifetime f d).offers = d.offers := rfl
@[simp] theorem onLifetime_mail (f : Lifetime → Lifetime) (d : Device) : (onLifetime f d).mail = d.mail := rfl
@[simp] theorem onLifetime_emergency (f : Lifetime → Lifetime) (d : Device) : (onLifetime f d).emergency = d.emergency := rfl
@[simp] theorem onLifetime_sign (f : Lifetime → Lifetime) (d : Device) : (onLifetime f d).sign = d.sign := rfl
@[simp] theorem onLifetime_link (f : Lifetime → Lifetime) (d : Device) : (onLifetime f d).link = d.link := rfl
@[simp] theorem onLifetime_items (f : Lifetime → Lifetime) (d : Device) : (onLifetime f d).items = d.items := rfl
@[simp] theorem onLifetime_backed (f : Lifetime → Lifetime) (d : Device) : (onLifetime f d).backed = d.backed := rfl
@[simp] theorem onLifetime_radio (f : Lifetime → Lifetime) (d : Device) : (onLifetime f d).radio = d.radio := rfl
@[simp] theorem onLifetime_ahead (f : Lifetime → Lifetime) (d : Device) : (onLifetime f d).ahead = d.ahead := rfl
@[simp] theorem onLifetime_draws (f : Lifetime → Lifetime) (d : Device) : (onLifetime f d).draws = d.draws := rfl

@[simp] theorem addEntry_pins (m : Msg) (d : Device) : (addEntry m d).pins = d.pins := rfl
@[simp] theorem addEntry_vehicle (m : Msg) (d : Device) : (addEntry m d).vehicle = d.vehicle := rfl
@[simp] theorem addEntry_tariff (m : Msg) (d : Device) : (addEntry m d).tariff = d.tariff := rfl
@[simp] theorem addEntry_meter (m : Msg) (d : Device) : (addEntry m d).meter = d.meter := rfl
@[simp] theorem addEntry_store (m : Msg) (d : Device) : (addEntry m d).store = d.store := rfl
@[simp] theorem addEntry_channel (m : Msg) (d : Device) : (addEntry m d).channel = d.channel := rfl
@[simp] theorem addEntry_offers (m : Msg) (d : Device) : (addEntry m d).offers = d.offers := rfl
@[simp] theorem addEntry_mail (m : Msg) (d : Device) : (addEntry m d).mail = d.mail := rfl
@[simp] theorem addEntry_emergency (m : Msg) (d : Device) : (addEntry m d).emergency = d.emergency := rfl
@[simp] theorem addEntry_sign (m : Msg) (d : Device) : (addEntry m d).sign = d.sign := rfl
@[simp] theorem addEntry_link (m : Msg) (d : Device) : (addEntry m d).link = d.link := rfl
@[simp] theorem addEntry_items (m : Msg) (d : Device) : (addEntry m d).items = d.items := rfl
@[simp] theorem addEntry_backed (m : Msg) (d : Device) : (addEntry m d).backed = d.backed := rfl
@[simp] theorem addEntry_radio (m : Msg) (d : Device) : (addEntry m d).radio = d.radio := rfl
@[simp] theorem addEntry_ahead (m : Msg) (d : Device) : (addEntry m d).ahead = d.ahead := rfl
@[simp] theorem addEntry_draws (m : Msg) (d : Device) : (addEntry m d).draws = d.draws := rfl

@[simp] theorem onEntry_pins (n : Nat) (f : Entry → Entry) (d : Device) : (onEntry n f d).pins = d.pins := rfl
@[simp] theorem onEntry_vehicle (n : Nat) (f : Entry → Entry) (d : Device) : (onEntry n f d).vehicle = d.vehicle := rfl
@[simp] theorem onEntry_tariff (n : Nat) (f : Entry → Entry) (d : Device) : (onEntry n f d).tariff = d.tariff := rfl
@[simp] theorem onEntry_meter (n : Nat) (f : Entry → Entry) (d : Device) : (onEntry n f d).meter = d.meter := rfl
@[simp] theorem onEntry_store (n : Nat) (f : Entry → Entry) (d : Device) : (onEntry n f d).store = d.store := rfl
@[simp] theorem onEntry_channel (n : Nat) (f : Entry → Entry) (d : Device) : (onEntry n f d).channel = d.channel := rfl
@[simp] theorem onEntry_offers (n : Nat) (f : Entry → Entry) (d : Device) : (onEntry n f d).offers = d.offers := rfl
@[simp] theorem onEntry_mail (n : Nat) (f : Entry → Entry) (d : Device) : (onEntry n f d).mail = d.mail := rfl
@[simp] theorem onEntry_emergency (n : Nat) (f : Entry → Entry) (d : Device) : (onEntry n f d).emergency = d.emergency := rfl
@[simp] theorem onEntry_sign (n : Nat) (f : Entry → Entry) (d : Device) : (onEntry n f d).sign = d.sign := rfl
@[simp] theorem onEntry_link (n : Nat) (f : Entry → Entry) (d : Device) : (onEntry n f d).link = d.link := rfl
@[simp] theorem onEntry_items (n : Nat) (f : Entry → Entry) (d : Device) : (onEntry n f d).items = d.items := rfl
@[simp] theorem onEntry_backed (n : Nat) (f : Entry → Entry) (d : Device) : (onEntry n f d).backed = d.backed := rfl
@[simp] theorem onEntry_radio (n : Nat) (f : Entry → Entry) (d : Device) : (onEntry n f d).radio = d.radio := rfl
@[simp] theorem onEntry_ahead (n : Nat) (f : Entry → Entry) (d : Device) : (onEntry n f d).ahead = d.ahead := rfl
@[simp] theorem onEntry_draws (n : Nat) (f : Entry → Entry) (d : Device) : (onEntry n f d).draws = d.draws := rfl

@[simp] theorem setMark_pins (n : Nat) (m : Mark) (d : Device) : (setMark n m d).pins = d.pins := rfl
@[simp] theorem setMark_vehicle (n : Nat) (m : Mark) (d : Device) : (setMark n m d).vehicle = d.vehicle := rfl
@[simp] theorem setMark_tariff (n : Nat) (m : Mark) (d : Device) : (setMark n m d).tariff = d.tariff := rfl
@[simp] theorem setMark_meter (n : Nat) (m : Mark) (d : Device) : (setMark n m d).meter = d.meter := rfl
@[simp] theorem setMark_channel (n : Nat) (m : Mark) (d : Device) : (setMark n m d).channel = d.channel := rfl
@[simp] theorem setMark_uplink (n : Nat) (m : Mark) (d : Device) : (setMark n m d).uplink = d.uplink := rfl
@[simp] theorem setMark_offers (n : Nat) (m : Mark) (d : Device) : (setMark n m d).offers = d.offers := rfl
@[simp] theorem setMark_mail (n : Nat) (m : Mark) (d : Device) : (setMark n m d).mail = d.mail := rfl
@[simp] theorem setMark_emergency (n : Nat) (m : Mark) (d : Device) : (setMark n m d).emergency = d.emergency := rfl
@[simp] theorem setMark_sign (n : Nat) (m : Mark) (d : Device) : (setMark n m d).sign = d.sign := rfl
@[simp] theorem setMark_link (n : Nat) (m : Mark) (d : Device) : (setMark n m d).link = d.link := rfl
@[simp] theorem setMark_items (n : Nat) (m : Mark) (d : Device) : (setMark n m d).items = d.items := rfl
@[simp] theorem setMark_backed (n : Nat) (m : Mark) (d : Device) : (setMark n m d).backed = d.backed := rfl
@[simp] theorem setMark_radio (n : Nat) (m : Mark) (d : Device) : (setMark n m d).radio = d.radio := rfl
@[simp] theorem setMark_ahead (n : Nat) (m : Mark) (d : Device) : (setMark n m d).ahead = d.ahead := rfl
@[simp] theorem setMark_draws (n : Nat) (m : Mark) (d : Device) : (setMark n m d).draws = d.draws := rfl

@[simp] theorem storeForfeit_pins  (d : Device) : (storeForfeit d).pins = d.pins := rfl
@[simp] theorem storeForfeit_vehicle  (d : Device) : (storeForfeit d).vehicle = d.vehicle := rfl
@[simp] theorem storeForfeit_tariff  (d : Device) : (storeForfeit d).tariff = d.tariff := rfl
@[simp] theorem storeForfeit_meter  (d : Device) : (storeForfeit d).meter = d.meter := rfl
@[simp] theorem storeForfeit_channel  (d : Device) : (storeForfeit d).channel = d.channel := rfl
@[simp] theorem storeForfeit_uplink  (d : Device) : (storeForfeit d).uplink = d.uplink := rfl
@[simp] theorem storeForfeit_offers  (d : Device) : (storeForfeit d).offers = d.offers := rfl
@[simp] theorem storeForfeit_mail  (d : Device) : (storeForfeit d).mail = d.mail := rfl
@[simp] theorem storeForfeit_emergency  (d : Device) : (storeForfeit d).emergency = d.emergency := rfl
@[simp] theorem storeForfeit_sign  (d : Device) : (storeForfeit d).sign = d.sign := rfl
@[simp] theorem storeForfeit_link  (d : Device) : (storeForfeit d).link = d.link := rfl
@[simp] theorem storeForfeit_items  (d : Device) : (storeForfeit d).items = d.items := rfl
@[simp] theorem storeForfeit_backed  (d : Device) : (storeForfeit d).backed = d.backed := rfl
@[simp] theorem storeForfeit_radio  (d : Device) : (storeForfeit d).radio = d.radio := rfl
@[simp] theorem storeForfeit_ahead  (d : Device) : (storeForfeit d).ahead = d.ahead := rfl
@[simp] theorem storeForfeit_draws  (d : Device) : (storeForfeit d).draws = d.draws := rfl

@[simp] theorem removeRecord_pins (n : Nat) (d : Device) : (removeRecord n d).pins = d.pins := rfl
@[simp] theorem removeRecord_vehicle (n : Nat) (d : Device) : (removeRecord n d).vehicle = d.vehicle := rfl
@[simp] theorem removeRecord_tariff (n : Nat) (d : Device) : (removeRecord n d).tariff = d.tariff := rfl
@[simp] theorem removeRecord_meter (n : Nat) (d : Device) : (removeRecord n d).meter = d.meter := rfl
@[simp] theorem removeRecord_channel (n : Nat) (d : Device) : (removeRecord n d).channel = d.channel := rfl
@[simp] theorem removeRecord_uplink (n : Nat) (d : Device) : (removeRecord n d).uplink = d.uplink := rfl
@[simp] theorem removeRecord_offers (n : Nat) (d : Device) : (removeRecord n d).offers = d.offers := rfl
@[simp] theorem removeRecord_mail (n : Nat) (d : Device) : (removeRecord n d).mail = d.mail := rfl
@[simp] theorem removeRecord_emergency (n : Nat) (d : Device) : (removeRecord n d).emergency = d.emergency := rfl
@[simp] theorem removeRecord_sign (n : Nat) (d : Device) : (removeRecord n d).sign = d.sign := rfl
@[simp] theorem removeRecord_link (n : Nat) (d : Device) : (removeRecord n d).link = d.link := rfl
@[simp] theorem removeRecord_items (n : Nat) (d : Device) : (removeRecord n d).items = d.items := rfl
@[simp] theorem removeRecord_backed (n : Nat) (d : Device) : (removeRecord n d).backed = d.backed := rfl
@[simp] theorem removeRecord_radio (n : Nat) (d : Device) : (removeRecord n d).radio = d.radio := rfl
@[simp] theorem removeRecord_ahead (n : Nat) (d : Device) : (removeRecord n d).ahead = d.ahead := rfl
@[simp] theorem removeRecord_draws (n : Nat) (d : Device) : (removeRecord n d).draws = d.draws := rfl

@[simp] theorem onOffer_pins (j : Nat) (f : Offer → Offer) (d : Device) : (onOffer j f d).pins = d.pins := rfl
@[simp] theorem onOffer_vehicle (j : Nat) (f : Offer → Offer) (d : Device) : (onOffer j f d).vehicle = d.vehicle := rfl
@[simp] theorem onOffer_tariff (j : Nat) (f : Offer → Offer) (d : Device) : (onOffer j f d).tariff = d.tariff := rfl
@[simp] theorem onOffer_meter (j : Nat) (f : Offer → Offer) (d : Device) : (onOffer j f d).meter = d.meter := rfl
@[simp] theorem onOffer_store (j : Nat) (f : Offer → Offer) (d : Device) : (onOffer j f d).store = d.store := rfl
@[simp] theorem onOffer_channel (j : Nat) (f : Offer → Offer) (d : Device) : (onOffer j f d).channel = d.channel := rfl
@[simp] theorem onOffer_uplink (j : Nat) (f : Offer → Offer) (d : Device) : (onOffer j f d).uplink = d.uplink := rfl
@[simp] theorem onOffer_mail (j : Nat) (f : Offer → Offer) (d : Device) : (onOffer j f d).mail = d.mail := rfl
@[simp] theorem onOffer_emergency (j : Nat) (f : Offer → Offer) (d : Device) : (onOffer j f d).emergency = d.emergency := rfl
@[simp] theorem onOffer_sign (j : Nat) (f : Offer → Offer) (d : Device) : (onOffer j f d).sign = d.sign := rfl
@[simp] theorem onOffer_link (j : Nat) (f : Offer → Offer) (d : Device) : (onOffer j f d).link = d.link := rfl
@[simp] theorem onOffer_items (j : Nat) (f : Offer → Offer) (d : Device) : (onOffer j f d).items = d.items := rfl
@[simp] theorem onOffer_backed (j : Nat) (f : Offer → Offer) (d : Device) : (onOffer j f d).backed = d.backed := rfl
@[simp] theorem onOffer_radio (j : Nat) (f : Offer → Offer) (d : Device) : (onOffer j f d).radio = d.radio := rfl
@[simp] theorem onOffer_ahead (j : Nat) (f : Offer → Offer) (d : Device) : (onOffer j f d).ahead = d.ahead := rfl
@[simp] theorem onOffer_draws (j : Nat) (f : Offer → Offer) (d : Device) : (onOffer j f d).draws = d.draws := rfl

@[simp] theorem onMail_pins (n : Nat) (f : Mail → Mail) (d : Device) : (onMail n f d).pins = d.pins := rfl
@[simp] theorem onMail_vehicle (n : Nat) (f : Mail → Mail) (d : Device) : (onMail n f d).vehicle = d.vehicle := rfl
@[simp] theorem onMail_tariff (n : Nat) (f : Mail → Mail) (d : Device) : (onMail n f d).tariff = d.tariff := rfl
@[simp] theorem onMail_meter (n : Nat) (f : Mail → Mail) (d : Device) : (onMail n f d).meter = d.meter := rfl
@[simp] theorem onMail_store (n : Nat) (f : Mail → Mail) (d : Device) : (onMail n f d).store = d.store := rfl
@[simp] theorem onMail_channel (n : Nat) (f : Mail → Mail) (d : Device) : (onMail n f d).channel = d.channel := rfl
@[simp] theorem onMail_uplink (n : Nat) (f : Mail → Mail) (d : Device) : (onMail n f d).uplink = d.uplink := rfl
@[simp] theorem onMail_offers (n : Nat) (f : Mail → Mail) (d : Device) : (onMail n f d).offers = d.offers := rfl
@[simp] theorem onMail_emergency (n : Nat) (f : Mail → Mail) (d : Device) : (onMail n f d).emergency = d.emergency := rfl
@[simp] theorem onMail_sign (n : Nat) (f : Mail → Mail) (d : Device) : (onMail n f d).sign = d.sign := rfl
@[simp] theorem onMail_link (n : Nat) (f : Mail → Mail) (d : Device) : (onMail n f d).link = d.link := rfl
@[simp] theorem onMail_items (n : Nat) (f : Mail → Mail) (d : Device) : (onMail n f d).items = d.items := rfl
@[simp] theorem onMail_backed (n : Nat) (f : Mail → Mail) (d : Device) : (onMail n f d).backed = d.backed := rfl
@[simp] theorem onMail_radio (n : Nat) (f : Mail → Mail) (d : Device) : (onMail n f d).radio = d.radio := rfl
@[simp] theorem onMail_ahead (n : Nat) (f : Mail → Mail) (d : Device) : (onMail n f d).ahead = d.ahead := rfl
@[simp] theorem onMail_draws (n : Nat) (f : Mail → Mail) (d : Device) : (onMail n f d).draws = d.draws := rfl

@[simp] theorem removeMail_pins (n : Nat) (d : Device) : (removeMail n d).pins = d.pins := rfl
@[simp] theorem removeMail_vehicle (n : Nat) (d : Device) : (removeMail n d).vehicle = d.vehicle := rfl
@[simp] theorem removeMail_tariff (n : Nat) (d : Device) : (removeMail n d).tariff = d.tariff := rfl
@[simp] theorem removeMail_meter (n : Nat) (d : Device) : (removeMail n d).meter = d.meter := rfl
@[simp] theorem removeMail_store (n : Nat) (d : Device) : (removeMail n d).store = d.store := rfl
@[simp] theorem removeMail_channel (n : Nat) (d : Device) : (removeMail n d).channel = d.channel := rfl
@[simp] theorem removeMail_uplink (n : Nat) (d : Device) : (removeMail n d).uplink = d.uplink := rfl
@[simp] theorem removeMail_offers (n : Nat) (d : Device) : (removeMail n d).offers = d.offers := rfl
@[simp] theorem removeMail_emergency (n : Nat) (d : Device) : (removeMail n d).emergency = d.emergency := rfl
@[simp] theorem removeMail_sign (n : Nat) (d : Device) : (removeMail n d).sign = d.sign := rfl
@[simp] theorem removeMail_link (n : Nat) (d : Device) : (removeMail n d).link = d.link := rfl
@[simp] theorem removeMail_items (n : Nat) (d : Device) : (removeMail n d).items = d.items := rfl
@[simp] theorem removeMail_backed (n : Nat) (d : Device) : (removeMail n d).backed = d.backed := rfl
@[simp] theorem removeMail_radio (n : Nat) (d : Device) : (removeMail n d).radio = d.radio := rfl
@[simp] theorem removeMail_ahead (n : Nat) (d : Device) : (removeMail n d).ahead = d.ahead := rfl
@[simp] theorem removeMail_draws (n : Nat) (d : Device) : (removeMail n d).draws = d.draws := rfl

@[simp] theorem dropOverdueBuffers_pins  (d : Device) : (dropOverdueBuffers d).pins = d.pins := rfl
@[simp] theorem dropOverdueBuffers_vehicle  (d : Device) : (dropOverdueBuffers d).vehicle = d.vehicle := rfl
@[simp] theorem dropOverdueBuffers_tariff  (d : Device) : (dropOverdueBuffers d).tariff = d.tariff := rfl
@[simp] theorem dropOverdueBuffers_meter  (d : Device) : (dropOverdueBuffers d).meter = d.meter := rfl
@[simp] theorem dropOverdueBuffers_store  (d : Device) : (dropOverdueBuffers d).store = d.store := rfl
@[simp] theorem dropOverdueBuffers_channel  (d : Device) : (dropOverdueBuffers d).channel = d.channel := rfl
@[simp] theorem dropOverdueBuffers_uplink  (d : Device) : (dropOverdueBuffers d).uplink = d.uplink := rfl
@[simp] theorem dropOverdueBuffers_offers  (d : Device) : (dropOverdueBuffers d).offers = d.offers := rfl
@[simp] theorem dropOverdueBuffers_emergency  (d : Device) : (dropOverdueBuffers d).emergency = d.emergency := rfl
@[simp] theorem dropOverdueBuffers_sign  (d : Device) : (dropOverdueBuffers d).sign = d.sign := rfl
@[simp] theorem dropOverdueBuffers_link  (d : Device) : (dropOverdueBuffers d).link = d.link := rfl
@[simp] theorem dropOverdueBuffers_items  (d : Device) : (dropOverdueBuffers d).items = d.items := rfl
@[simp] theorem dropOverdueBuffers_backed  (d : Device) : (dropOverdueBuffers d).backed = d.backed := rfl
@[simp] theorem dropOverdueBuffers_radio  (d : Device) : (dropOverdueBuffers d).radio = d.radio := rfl
@[simp] theorem dropOverdueBuffers_ahead  (d : Device) : (dropOverdueBuffers d).ahead = d.ahead := rfl
@[simp] theorem dropOverdueBuffers_draws  (d : Device) : (dropOverdueBuffers d).draws = d.draws := rfl

@[simp] theorem mailHeader_pins  (d : Device) : (mailHeader d).pins = d.pins := rfl
@[simp] theorem mailHeader_vehicle  (d : Device) : (mailHeader d).vehicle = d.vehicle := rfl
@[simp] theorem mailHeader_tariff  (d : Device) : (mailHeader d).tariff = d.tariff := rfl
@[simp] theorem mailHeader_meter  (d : Device) : (mailHeader d).meter = d.meter := rfl
@[simp] theorem mailHeader_store  (d : Device) : (mailHeader d).store = d.store := rfl
@[simp] theorem mailHeader_channel  (d : Device) : (mailHeader d).channel = d.channel := rfl
@[simp] theorem mailHeader_uplink  (d : Device) : (mailHeader d).uplink = d.uplink := rfl
@[simp] theorem mailHeader_offers  (d : Device) : (mailHeader d).offers = d.offers := rfl
@[simp] theorem mailHeader_emergency  (d : Device) : (mailHeader d).emergency = d.emergency := rfl
@[simp] theorem mailHeader_sign  (d : Device) : (mailHeader d).sign = d.sign := rfl
@[simp] theorem mailHeader_link  (d : Device) : (mailHeader d).link = d.link := rfl
@[simp] theorem mailHeader_items  (d : Device) : (mailHeader d).items = d.items := rfl
@[simp] theorem mailHeader_backed  (d : Device) : (mailHeader d).backed = d.backed := rfl
@[simp] theorem mailHeader_radio  (d : Device) : (mailHeader d).radio = d.radio := rfl
@[simp] theorem mailHeader_ahead  (d : Device) : (mailHeader d).ahead = d.ahead := rfl
@[simp] theorem mailHeader_draws  (d : Device) : (mailHeader d).draws = d.draws := rfl

@[simp] theorem setLane_pins (l : Lane) (d : Device) : (setLane l d).pins = d.pins := rfl
@[simp] theorem setLane_vehicle (l : Lane) (d : Device) : (setLane l d).vehicle = d.vehicle := rfl
@[simp] theorem setLane_tariff (l : Lane) (d : Device) : (setLane l d).tariff = d.tariff := rfl
@[simp] theorem setLane_meter (l : Lane) (d : Device) : (setLane l d).meter = d.meter := rfl
@[simp] theorem setLane_store (l : Lane) (d : Device) : (setLane l d).store = d.store := rfl
@[simp] theorem setLane_channel (l : Lane) (d : Device) : (setLane l d).channel = d.channel := rfl
@[simp] theorem setLane_offers (l : Lane) (d : Device) : (setLane l d).offers = d.offers := rfl
@[simp] theorem setLane_mail (l : Lane) (d : Device) : (setLane l d).mail = d.mail := rfl
@[simp] theorem setLane_emergency (l : Lane) (d : Device) : (setLane l d).emergency = d.emergency := rfl
@[simp] theorem setLane_sign (l : Lane) (d : Device) : (setLane l d).sign = d.sign := rfl
@[simp] theorem setLane_link (l : Lane) (d : Device) : (setLane l d).link = d.link := rfl
@[simp] theorem setLane_items (l : Lane) (d : Device) : (setLane l d).items = d.items := rfl
@[simp] theorem setLane_backed (l : Lane) (d : Device) : (setLane l d).backed = d.backed := rfl
@[simp] theorem setLane_radio (l : Lane) (d : Device) : (setLane l d).radio = d.radio := rfl
@[simp] theorem setLane_ahead (l : Lane) (d : Device) : (setLane l d).ahead = d.ahead := rfl
@[simp] theorem setLane_draws (l : Lane) (d : Device) : (setLane l d).draws = d.draws := rfl

@[simp] theorem cancelWindowTick_pins  (d : Device) : (cancelWindowTick d).pins = d.pins := rfl
@[simp] theorem cancelWindowTick_vehicle  (d : Device) : (cancelWindowTick d).vehicle = d.vehicle := rfl
@[simp] theorem cancelWindowTick_tariff  (d : Device) : (cancelWindowTick d).tariff = d.tariff := rfl
@[simp] theorem cancelWindowTick_meter  (d : Device) : (cancelWindowTick d).meter = d.meter := rfl
@[simp] theorem cancelWindowTick_store  (d : Device) : (cancelWindowTick d).store = d.store := rfl
@[simp] theorem cancelWindowTick_channel  (d : Device) : (cancelWindowTick d).channel = d.channel := rfl
@[simp] theorem cancelWindowTick_uplink  (d : Device) : (cancelWindowTick d).uplink = d.uplink := rfl
@[simp] theorem cancelWindowTick_offers  (d : Device) : (cancelWindowTick d).offers = d.offers := rfl
@[simp] theorem cancelWindowTick_mail  (d : Device) : (cancelWindowTick d).mail = d.mail := rfl
@[simp] theorem cancelWindowTick_sign  (d : Device) : (cancelWindowTick d).sign = d.sign := rfl
@[simp] theorem cancelWindowTick_link  (d : Device) : (cancelWindowTick d).link = d.link := rfl
@[simp] theorem cancelWindowTick_items  (d : Device) : (cancelWindowTick d).items = d.items := rfl
@[simp] theorem cancelWindowTick_backed  (d : Device) : (cancelWindowTick d).backed = d.backed := rfl
@[simp] theorem cancelWindowTick_radio  (d : Device) : (cancelWindowTick d).radio = d.radio := rfl
@[simp] theorem cancelWindowTick_ahead  (d : Device) : (cancelWindowTick d).ahead = d.ahead := rfl
@[simp] theorem cancelWindowTick_draws  (d : Device) : (cancelWindowTick d).draws = d.draws := rfl

@[simp] theorem setClock_pins (t : Option ClockTime) (h : Bool) (d : Device) : (setClock t h d).pins = d.pins := rfl
@[simp] theorem setClock_tariff (t : Option ClockTime) (h : Bool) (d : Device) : (setClock t h d).tariff = d.tariff := rfl
@[simp] theorem setClock_meter (t : Option ClockTime) (h : Bool) (d : Device) : (setClock t h d).meter = d.meter := rfl
@[simp] theorem setClock_store (t : Option ClockTime) (h : Bool) (d : Device) : (setClock t h d).store = d.store := rfl
@[simp] theorem setClock_channel (t : Option ClockTime) (h : Bool) (d : Device) : (setClock t h d).channel = d.channel := rfl
@[simp] theorem setClock_uplink (t : Option ClockTime) (h : Bool) (d : Device) : (setClock t h d).uplink = d.uplink := rfl
@[simp] theorem setClock_offers (t : Option ClockTime) (h : Bool) (d : Device) : (setClock t h d).offers = d.offers := rfl
@[simp] theorem setClock_mail (t : Option ClockTime) (h : Bool) (d : Device) : (setClock t h d).mail = d.mail := rfl
@[simp] theorem setClock_emergency (t : Option ClockTime) (h : Bool) (d : Device) : (setClock t h d).emergency = d.emergency := rfl
@[simp] theorem setClock_sign (t : Option ClockTime) (h : Bool) (d : Device) : (setClock t h d).sign = d.sign := rfl
@[simp] theorem setClock_link (t : Option ClockTime) (h : Bool) (d : Device) : (setClock t h d).link = d.link := rfl
@[simp] theorem setClock_items (t : Option ClockTime) (h : Bool) (d : Device) : (setClock t h d).items = d.items := rfl
@[simp] theorem setClock_backed (t : Option ClockTime) (h : Bool) (d : Device) : (setClock t h d).backed = d.backed := rfl
@[simp] theorem setClock_radio (t : Option ClockTime) (h : Bool) (d : Device) : (setClock t h d).radio = d.radio := rfl
@[simp] theorem setClock_ahead (t : Option ClockTime) (h : Bool) (d : Device) : (setClock t h d).ahead = d.ahead := rfl
@[simp] theorem setClock_draws (t : Option ClockTime) (h : Bool) (d : Device) : (setClock t h d).draws = d.draws := rfl

@[simp] theorem setPanic_pins (p : PanicDebounce) (d : Device) : (setPanic p d).pins = d.pins := rfl
@[simp] theorem setPanic_tariff (p : PanicDebounce) (d : Device) : (setPanic p d).tariff = d.tariff := rfl
@[simp] theorem setPanic_meter (p : PanicDebounce) (d : Device) : (setPanic p d).meter = d.meter := rfl
@[simp] theorem setPanic_store (p : PanicDebounce) (d : Device) : (setPanic p d).store = d.store := rfl
@[simp] theorem setPanic_channel (p : PanicDebounce) (d : Device) : (setPanic p d).channel = d.channel := rfl
@[simp] theorem setPanic_uplink (p : PanicDebounce) (d : Device) : (setPanic p d).uplink = d.uplink := rfl
@[simp] theorem setPanic_offers (p : PanicDebounce) (d : Device) : (setPanic p d).offers = d.offers := rfl
@[simp] theorem setPanic_mail (p : PanicDebounce) (d : Device) : (setPanic p d).mail = d.mail := rfl
@[simp] theorem setPanic_emergency (p : PanicDebounce) (d : Device) : (setPanic p d).emergency = d.emergency := rfl
@[simp] theorem setPanic_sign (p : PanicDebounce) (d : Device) : (setPanic p d).sign = d.sign := rfl
@[simp] theorem setPanic_link (p : PanicDebounce) (d : Device) : (setPanic p d).link = d.link := rfl
@[simp] theorem setPanic_items (p : PanicDebounce) (d : Device) : (setPanic p d).items = d.items := rfl
@[simp] theorem setPanic_backed (p : PanicDebounce) (d : Device) : (setPanic p d).backed = d.backed := rfl
@[simp] theorem setPanic_radio (p : PanicDebounce) (d : Device) : (setPanic p d).radio = d.radio := rfl
@[simp] theorem setPanic_ahead (p : PanicDebounce) (d : Device) : (setPanic p d).ahead = d.ahead := rfl
@[simp] theorem setPanic_draws (p : PanicDebounce) (d : Device) : (setPanic p d).draws = d.draws := rfl

@[simp] theorem setFix_pins (x : Option Fix) (d : Device) : (setFix x d).pins = d.pins := rfl
@[simp] theorem setFix_tariff (x : Option Fix) (d : Device) : (setFix x d).tariff = d.tariff := rfl
@[simp] theorem setFix_meter (x : Option Fix) (d : Device) : (setFix x d).meter = d.meter := rfl
@[simp] theorem setFix_store (x : Option Fix) (d : Device) : (setFix x d).store = d.store := rfl
@[simp] theorem setFix_channel (x : Option Fix) (d : Device) : (setFix x d).channel = d.channel := rfl
@[simp] theorem setFix_uplink (x : Option Fix) (d : Device) : (setFix x d).uplink = d.uplink := rfl
@[simp] theorem setFix_offers (x : Option Fix) (d : Device) : (setFix x d).offers = d.offers := rfl
@[simp] theorem setFix_mail (x : Option Fix) (d : Device) : (setFix x d).mail = d.mail := rfl
@[simp] theorem setFix_emergency (x : Option Fix) (d : Device) : (setFix x d).emergency = d.emergency := rfl
@[simp] theorem setFix_sign (x : Option Fix) (d : Device) : (setFix x d).sign = d.sign := rfl
@[simp] theorem setFix_link (x : Option Fix) (d : Device) : (setFix x d).link = d.link := rfl
@[simp] theorem setFix_items (x : Option Fix) (d : Device) : (setFix x d).items = d.items := rfl
@[simp] theorem setFix_backed (x : Option Fix) (d : Device) : (setFix x d).backed = d.backed := rfl
@[simp] theorem setFix_radio (x : Option Fix) (d : Device) : (setFix x d).radio = d.radio := rfl
@[simp] theorem setFix_ahead (x : Option Fix) (d : Device) : (setFix x d).ahead = d.ahead := rfl
@[simp] theorem setFix_draws (x : Option Fix) (d : Device) : (setFix x d).draws = d.draws := rfl

@[simp] theorem ageFix_pins  (d : Device) : (ageFix d).pins = d.pins := rfl
@[simp] theorem ageFix_tariff  (d : Device) : (ageFix d).tariff = d.tariff := rfl
@[simp] theorem ageFix_meter  (d : Device) : (ageFix d).meter = d.meter := rfl
@[simp] theorem ageFix_store  (d : Device) : (ageFix d).store = d.store := rfl
@[simp] theorem ageFix_channel  (d : Device) : (ageFix d).channel = d.channel := rfl
@[simp] theorem ageFix_uplink  (d : Device) : (ageFix d).uplink = d.uplink := rfl
@[simp] theorem ageFix_offers  (d : Device) : (ageFix d).offers = d.offers := rfl
@[simp] theorem ageFix_mail  (d : Device) : (ageFix d).mail = d.mail := rfl
@[simp] theorem ageFix_emergency  (d : Device) : (ageFix d).emergency = d.emergency := rfl
@[simp] theorem ageFix_sign  (d : Device) : (ageFix d).sign = d.sign := rfl
@[simp] theorem ageFix_link  (d : Device) : (ageFix d).link = d.link := rfl
@[simp] theorem ageFix_items  (d : Device) : (ageFix d).items = d.items := rfl
@[simp] theorem ageFix_backed  (d : Device) : (ageFix d).backed = d.backed := rfl
@[simp] theorem ageFix_radio  (d : Device) : (ageFix d).radio = d.radio := rfl
@[simp] theorem ageFix_ahead  (d : Device) : (ageFix d).ahead = d.ahead := rfl
@[simp] theorem ageFix_draws  (d : Device) : (ageFix d).draws = d.draws := rfl

@[simp] theorem setPair_pins (a b : Bool) (d : Device) : (setPair a b d).pins = d.pins := rfl
@[simp] theorem setPair_tariff (a b : Bool) (d : Device) : (setPair a b d).tariff = d.tariff := rfl
@[simp] theorem setPair_meter (a b : Bool) (d : Device) : (setPair a b d).meter = d.meter := rfl
@[simp] theorem setPair_store (a b : Bool) (d : Device) : (setPair a b d).store = d.store := rfl
@[simp] theorem setPair_channel (a b : Bool) (d : Device) : (setPair a b d).channel = d.channel := rfl
@[simp] theorem setPair_uplink (a b : Bool) (d : Device) : (setPair a b d).uplink = d.uplink := rfl
@[simp] theorem setPair_offers (a b : Bool) (d : Device) : (setPair a b d).offers = d.offers := rfl
@[simp] theorem setPair_mail (a b : Bool) (d : Device) : (setPair a b d).mail = d.mail := rfl
@[simp] theorem setPair_emergency (a b : Bool) (d : Device) : (setPair a b d).emergency = d.emergency := rfl
@[simp] theorem setPair_sign (a b : Bool) (d : Device) : (setPair a b d).sign = d.sign := rfl
@[simp] theorem setPair_link (a b : Bool) (d : Device) : (setPair a b d).link = d.link := rfl
@[simp] theorem setPair_items (a b : Bool) (d : Device) : (setPair a b d).items = d.items := rfl
@[simp] theorem setPair_backed (a b : Bool) (d : Device) : (setPair a b d).backed = d.backed := rfl
@[simp] theorem setPair_radio (a b : Bool) (d : Device) : (setPair a b d).radio = d.radio := rfl
@[simp] theorem setPair_ahead (a b : Bool) (d : Device) : (setPair a b d).ahead = d.ahead := rfl
@[simp] theorem setPair_draws (a b : Bool) (d : Device) : (setPair a b d).draws = d.draws := rfl

@[simp] theorem resetUnmetered_pins  (d : Device) : (resetUnmetered d).pins = d.pins := rfl
@[simp] theorem resetUnmetered_tariff  (d : Device) : (resetUnmetered d).tariff = d.tariff := rfl
@[simp] theorem resetUnmetered_meter  (d : Device) : (resetUnmetered d).meter = d.meter := rfl
@[simp] theorem resetUnmetered_store  (d : Device) : (resetUnmetered d).store = d.store := rfl
@[simp] theorem resetUnmetered_channel  (d : Device) : (resetUnmetered d).channel = d.channel := rfl
@[simp] theorem resetUnmetered_uplink  (d : Device) : (resetUnmetered d).uplink = d.uplink := rfl
@[simp] theorem resetUnmetered_offers  (d : Device) : (resetUnmetered d).offers = d.offers := rfl
@[simp] theorem resetUnmetered_mail  (d : Device) : (resetUnmetered d).mail = d.mail := rfl
@[simp] theorem resetUnmetered_emergency  (d : Device) : (resetUnmetered d).emergency = d.emergency := rfl
@[simp] theorem resetUnmetered_sign  (d : Device) : (resetUnmetered d).sign = d.sign := rfl
@[simp] theorem resetUnmetered_link  (d : Device) : (resetUnmetered d).link = d.link := rfl
@[simp] theorem resetUnmetered_items  (d : Device) : (resetUnmetered d).items = d.items := rfl
@[simp] theorem resetUnmetered_backed  (d : Device) : (resetUnmetered d).backed = d.backed := rfl
@[simp] theorem resetUnmetered_radio  (d : Device) : (resetUnmetered d).radio = d.radio := rfl
@[simp] theorem resetUnmetered_ahead  (d : Device) : (resetUnmetered d).ahead = d.ahead := rfl
@[simp] theorem resetUnmetered_draws  (d : Device) : (resetUnmetered d).draws = d.draws := rfl

@[simp] theorem countForward_pins  (d : Device) : (countForward d).pins = d.pins := rfl
@[simp] theorem countForward_tariff  (d : Device) : (countForward d).tariff = d.tariff := rfl
@[simp] theorem countForward_meter  (d : Device) : (countForward d).meter = d.meter := rfl
@[simp] theorem countForward_store  (d : Device) : (countForward d).store = d.store := rfl
@[simp] theorem countForward_channel  (d : Device) : (countForward d).channel = d.channel := rfl
@[simp] theorem countForward_uplink  (d : Device) : (countForward d).uplink = d.uplink := rfl
@[simp] theorem countForward_offers  (d : Device) : (countForward d).offers = d.offers := rfl
@[simp] theorem countForward_mail  (d : Device) : (countForward d).mail = d.mail := rfl
@[simp] theorem countForward_emergency  (d : Device) : (countForward d).emergency = d.emergency := rfl
@[simp] theorem countForward_sign  (d : Device) : (countForward d).sign = d.sign := rfl
@[simp] theorem countForward_link  (d : Device) : (countForward d).link = d.link := rfl
@[simp] theorem countForward_items  (d : Device) : (countForward d).items = d.items := rfl
@[simp] theorem countForward_backed  (d : Device) : (countForward d).backed = d.backed := rfl
@[simp] theorem countForward_radio  (d : Device) : (countForward d).radio = d.radio := rfl
@[simp] theorem countForward_ahead  (d : Device) : (countForward d).ahead = d.ahead := rfl
@[simp] theorem countForward_draws  (d : Device) : (countForward d).draws = d.draws := rfl

@[simp] theorem countReverse_pins  (d : Device) : (countReverse d).pins = d.pins := rfl
@[simp] theorem countReverse_tariff  (d : Device) : (countReverse d).tariff = d.tariff := rfl
@[simp] theorem countReverse_meter  (d : Device) : (countReverse d).meter = d.meter := rfl
@[simp] theorem countReverse_store  (d : Device) : (countReverse d).store = d.store := rfl
@[simp] theorem countReverse_channel  (d : Device) : (countReverse d).channel = d.channel := rfl
@[simp] theorem countReverse_uplink  (d : Device) : (countReverse d).uplink = d.uplink := rfl
@[simp] theorem countReverse_offers  (d : Device) : (countReverse d).offers = d.offers := rfl
@[simp] theorem countReverse_mail  (d : Device) : (countReverse d).mail = d.mail := rfl
@[simp] theorem countReverse_emergency  (d : Device) : (countReverse d).emergency = d.emergency := rfl
@[simp] theorem countReverse_sign  (d : Device) : (countReverse d).sign = d.sign := rfl
@[simp] theorem countReverse_link  (d : Device) : (countReverse d).link = d.link := rfl
@[simp] theorem countReverse_items  (d : Device) : (countReverse d).items = d.items := rfl
@[simp] theorem countReverse_backed  (d : Device) : (countReverse d).backed = d.backed := rfl
@[simp] theorem countReverse_radio  (d : Device) : (countReverse d).radio = d.radio := rfl
@[simp] theorem countReverse_ahead  (d : Device) : (countReverse d).ahead = d.ahead := rfl
@[simp] theorem countReverse_draws  (d : Device) : (countReverse d).draws = d.draws := rfl

@[simp] theorem setWheelPins_vehicle (a b : Bool) (d : Device) : (setWheelPins a b d).vehicle = d.vehicle := rfl
@[simp] theorem setWheelPins_tariff (a b : Bool) (d : Device) : (setWheelPins a b d).tariff = d.tariff := rfl
@[simp] theorem setWheelPins_meter (a b : Bool) (d : Device) : (setWheelPins a b d).meter = d.meter := rfl
@[simp] theorem setWheelPins_store (a b : Bool) (d : Device) : (setWheelPins a b d).store = d.store := rfl
@[simp] theorem setWheelPins_channel (a b : Bool) (d : Device) : (setWheelPins a b d).channel = d.channel := rfl
@[simp] theorem setWheelPins_uplink (a b : Bool) (d : Device) : (setWheelPins a b d).uplink = d.uplink := rfl
@[simp] theorem setWheelPins_offers (a b : Bool) (d : Device) : (setWheelPins a b d).offers = d.offers := rfl
@[simp] theorem setWheelPins_mail (a b : Bool) (d : Device) : (setWheelPins a b d).mail = d.mail := rfl
@[simp] theorem setWheelPins_emergency (a b : Bool) (d : Device) : (setWheelPins a b d).emergency = d.emergency := rfl
@[simp] theorem setWheelPins_sign (a b : Bool) (d : Device) : (setWheelPins a b d).sign = d.sign := rfl
@[simp] theorem setWheelPins_link (a b : Bool) (d : Device) : (setWheelPins a b d).link = d.link := rfl
@[simp] theorem setWheelPins_items (a b : Bool) (d : Device) : (setWheelPins a b d).items = d.items := rfl
@[simp] theorem setWheelPins_backed (a b : Bool) (d : Device) : (setWheelPins a b d).backed = d.backed := rfl
@[simp] theorem setWheelPins_radio (a b : Bool) (d : Device) : (setWheelPins a b d).radio = d.radio := rfl
@[simp] theorem setWheelPins_ahead (a b : Bool) (d : Device) : (setWheelPins a b d).ahead = d.ahead := rfl
@[simp] theorem setWheelPins_draws (a b : Bool) (d : Device) : (setWheelPins a b d).draws = d.draws := rfl

@[simp] theorem onChannel_pins (f : Channel → Channel) (d : Device) : (onChannel f d).pins = d.pins := rfl
@[simp] theorem onChannel_vehicle (f : Channel → Channel) (d : Device) : (onChannel f d).vehicle = d.vehicle := rfl
@[simp] theorem onChannel_tariff (f : Channel → Channel) (d : Device) : (onChannel f d).tariff = d.tariff := rfl
@[simp] theorem onChannel_meter (f : Channel → Channel) (d : Device) : (onChannel f d).meter = d.meter := rfl
@[simp] theorem onChannel_store (f : Channel → Channel) (d : Device) : (onChannel f d).store = d.store := rfl
@[simp] theorem onChannel_uplink (f : Channel → Channel) (d : Device) : (onChannel f d).uplink = d.uplink := rfl
@[simp] theorem onChannel_offers (f : Channel → Channel) (d : Device) : (onChannel f d).offers = d.offers := rfl
@[simp] theorem onChannel_mail (f : Channel → Channel) (d : Device) : (onChannel f d).mail = d.mail := rfl
@[simp] theorem onChannel_emergency (f : Channel → Channel) (d : Device) : (onChannel f d).emergency = d.emergency := rfl
@[simp] theorem onChannel_sign (f : Channel → Channel) (d : Device) : (onChannel f d).sign = d.sign := rfl
@[simp] theorem onChannel_link (f : Channel → Channel) (d : Device) : (onChannel f d).link = d.link := rfl
@[simp] theorem onChannel_items (f : Channel → Channel) (d : Device) : (onChannel f d).items = d.items := rfl
@[simp] theorem onChannel_backed (f : Channel → Channel) (d : Device) : (onChannel f d).backed = d.backed := rfl
@[simp] theorem onChannel_radio (f : Channel → Channel) (d : Device) : (onChannel f d).radio = d.radio := rfl
@[simp] theorem onChannel_ahead (f : Channel → Channel) (d : Device) : (onChannel f d).ahead = d.ahead := rfl
@[simp] theorem onChannel_draws (f : Channel → Channel) (d : Device) : (onChannel f d).draws = d.draws := rfl

@[simp] theorem enterSearching_pins  (d : Device) : (enterSearching d).pins = d.pins := rfl
@[simp] theorem enterSearching_vehicle  (d : Device) : (enterSearching d).vehicle = d.vehicle := rfl
@[simp] theorem enterSearching_tariff  (d : Device) : (enterSearching d).tariff = d.tariff := rfl
@[simp] theorem enterSearching_meter  (d : Device) : (enterSearching d).meter = d.meter := rfl
@[simp] theorem enterSearching_store  (d : Device) : (enterSearching d).store = d.store := rfl
@[simp] theorem enterSearching_uplink  (d : Device) : (enterSearching d).uplink = d.uplink := rfl
@[simp] theorem enterSearching_offers  (d : Device) : (enterSearching d).offers = d.offers := rfl
@[simp] theorem enterSearching_mail  (d : Device) : (enterSearching d).mail = d.mail := rfl
@[simp] theorem enterSearching_emergency  (d : Device) : (enterSearching d).emergency = d.emergency := rfl
@[simp] theorem enterSearching_sign  (d : Device) : (enterSearching d).sign = d.sign := rfl
@[simp] theorem enterSearching_link  (d : Device) : (enterSearching d).link = d.link := rfl
@[simp] theorem enterSearching_items  (d : Device) : (enterSearching d).items = d.items := rfl
@[simp] theorem enterSearching_backed  (d : Device) : (enterSearching d).backed = d.backed := rfl
@[simp] theorem enterSearching_radio  (d : Device) : (enterSearching d).radio = d.radio := rfl
@[simp] theorem enterSearching_ahead  (d : Device) : (enterSearching d).ahead = d.ahead := rfl
@[simp] theorem enterSearching_draws  (d : Device) : (enterSearching d).draws = d.draws := rfl

@[simp] theorem restartLoss_pins  (d : Device) : (restartLoss d).pins = d.pins := rfl
@[simp] theorem restartLoss_vehicle  (d : Device) : (restartLoss d).vehicle = d.vehicle := rfl
@[simp] theorem restartLoss_tariff  (d : Device) : (restartLoss d).tariff = d.tariff := rfl
@[simp] theorem restartLoss_meter  (d : Device) : (restartLoss d).meter = d.meter := rfl
@[simp] theorem restartLoss_store  (d : Device) : (restartLoss d).store = d.store := rfl
@[simp] theorem restartLoss_uplink  (d : Device) : (restartLoss d).uplink = d.uplink := rfl
@[simp] theorem restartLoss_offers  (d : Device) : (restartLoss d).offers = d.offers := rfl
@[simp] theorem restartLoss_mail  (d : Device) : (restartLoss d).mail = d.mail := rfl
@[simp] theorem restartLoss_emergency  (d : Device) : (restartLoss d).emergency = d.emergency := rfl
@[simp] theorem restartLoss_sign  (d : Device) : (restartLoss d).sign = d.sign := rfl
@[simp] theorem restartLoss_link  (d : Device) : (restartLoss d).link = d.link := rfl
@[simp] theorem restartLoss_items  (d : Device) : (restartLoss d).items = d.items := rfl
@[simp] theorem restartLoss_backed  (d : Device) : (restartLoss d).backed = d.backed := rfl
@[simp] theorem restartLoss_radio  (d : Device) : (restartLoss d).radio = d.radio := rfl
@[simp] theorem restartLoss_ahead  (d : Device) : (restartLoss d).ahead = d.ahead := rfl
@[simp] theorem restartLoss_draws  (d : Device) : (restartLoss d).draws = d.draws := rfl

@[simp] theorem onLogon_pins (f : Logon → Logon) (d : Device) : (onLogon f d).pins = d.pins := rfl
@[simp] theorem onLogon_vehicle (f : Logon → Logon) (d : Device) : (onLogon f d).vehicle = d.vehicle := rfl
@[simp] theorem onLogon_tariff (f : Logon → Logon) (d : Device) : (onLogon f d).tariff = d.tariff := rfl
@[simp] theorem onLogon_meter (f : Logon → Logon) (d : Device) : (onLogon f d).meter = d.meter := rfl
@[simp] theorem onLogon_store (f : Logon → Logon) (d : Device) : (onLogon f d).store = d.store := rfl
@[simp] theorem onLogon_uplink (f : Logon → Logon) (d : Device) : (onLogon f d).uplink = d.uplink := rfl
@[simp] theorem onLogon_offers (f : Logon → Logon) (d : Device) : (onLogon f d).offers = d.offers := rfl
@[simp] theorem onLogon_mail (f : Logon → Logon) (d : Device) : (onLogon f d).mail = d.mail := rfl
@[simp] theorem onLogon_emergency (f : Logon → Logon) (d : Device) : (onLogon f d).emergency = d.emergency := rfl
@[simp] theorem onLogon_sign (f : Logon → Logon) (d : Device) : (onLogon f d).sign = d.sign := rfl
@[simp] theorem onLogon_link (f : Logon → Logon) (d : Device) : (onLogon f d).link = d.link := rfl
@[simp] theorem onLogon_items (f : Logon → Logon) (d : Device) : (onLogon f d).items = d.items := rfl
@[simp] theorem onLogon_backed (f : Logon → Logon) (d : Device) : (onLogon f d).backed = d.backed := rfl
@[simp] theorem onLogon_radio (f : Logon → Logon) (d : Device) : (onLogon f d).radio = d.radio := rfl
@[simp] theorem onLogon_ahead (f : Logon → Logon) (d : Device) : (onLogon f d).ahead = d.ahead := rfl
@[simp] theorem onLogon_draws (f : Logon → Logon) (d : Device) : (onLogon f d).draws = d.draws := rfl

@[simp] theorem settleLogon_pins  (d : Device) : (settleLogon d).pins = d.pins := rfl
@[simp] theorem settleLogon_vehicle  (d : Device) : (settleLogon d).vehicle = d.vehicle := rfl
@[simp] theorem settleLogon_tariff  (d : Device) : (settleLogon d).tariff = d.tariff := rfl
@[simp] theorem settleLogon_meter  (d : Device) : (settleLogon d).meter = d.meter := rfl
@[simp] theorem settleLogon_store  (d : Device) : (settleLogon d).store = d.store := rfl
@[simp] theorem settleLogon_uplink  (d : Device) : (settleLogon d).uplink = d.uplink := rfl
@[simp] theorem settleLogon_offers  (d : Device) : (settleLogon d).offers = d.offers := rfl
@[simp] theorem settleLogon_mail  (d : Device) : (settleLogon d).mail = d.mail := rfl
@[simp] theorem settleLogon_emergency  (d : Device) : (settleLogon d).emergency = d.emergency := rfl
@[simp] theorem settleLogon_sign  (d : Device) : (settleLogon d).sign = d.sign := rfl
@[simp] theorem settleLogon_link  (d : Device) : (settleLogon d).link = d.link := rfl
@[simp] theorem settleLogon_items  (d : Device) : (settleLogon d).items = d.items := rfl
@[simp] theorem settleLogon_backed  (d : Device) : (settleLogon d).backed = d.backed := rfl
@[simp] theorem settleLogon_radio  (d : Device) : (settleLogon d).radio = d.radio := rfl
@[simp] theorem settleLogon_ahead  (d : Device) : (settleLogon d).ahead = d.ahead := rfl
@[simp] theorem settleLogon_draws  (d : Device) : (settleLogon d).draws = d.draws := rfl

@[simp] theorem setView_pins (h : Header) (d : Device) : (setView h d).pins = d.pins := rfl
@[simp] theorem setView_vehicle (h : Header) (d : Device) : (setView h d).vehicle = d.vehicle := rfl
@[simp] theorem setView_tariff (h : Header) (d : Device) : (setView h d).tariff = d.tariff := rfl
@[simp] theorem setView_meter (h : Header) (d : Device) : (setView h d).meter = d.meter := rfl
@[simp] theorem setView_store (h : Header) (d : Device) : (setView h d).store = d.store := rfl
@[simp] theorem setView_uplink (h : Header) (d : Device) : (setView h d).uplink = d.uplink := rfl
@[simp] theorem setView_offers (h : Header) (d : Device) : (setView h d).offers = d.offers := rfl
@[simp] theorem setView_mail (h : Header) (d : Device) : (setView h d).mail = d.mail := rfl
@[simp] theorem setView_emergency (h : Header) (d : Device) : (setView h d).emergency = d.emergency := rfl
@[simp] theorem setView_sign (h : Header) (d : Device) : (setView h d).sign = d.sign := rfl
@[simp] theorem setView_link (h : Header) (d : Device) : (setView h d).link = d.link := rfl
@[simp] theorem setView_items (h : Header) (d : Device) : (setView h d).items = d.items := rfl
@[simp] theorem setView_backed (h : Header) (d : Device) : (setView h d).backed = d.backed := rfl
@[simp] theorem setView_radio (h : Header) (d : Device) : (setView h d).radio = d.radio := rfl
@[simp] theorem setView_ahead (h : Header) (d : Device) : (setView h d).ahead = d.ahead := rfl
@[simp] theorem setView_draws (h : Header) (d : Device) : (setView h d).draws = d.draws := rfl

@[simp] theorem clearFlight_pins  (d : Device) : (clearFlight d).pins = d.pins := rfl
@[simp] theorem clearFlight_vehicle  (d : Device) : (clearFlight d).vehicle = d.vehicle := rfl
@[simp] theorem clearFlight_tariff  (d : Device) : (clearFlight d).tariff = d.tariff := rfl
@[simp] theorem clearFlight_meter  (d : Device) : (clearFlight d).meter = d.meter := rfl
@[simp] theorem clearFlight_store  (d : Device) : (clearFlight d).store = d.store := rfl
@[simp] theorem clearFlight_channel  (d : Device) : (clearFlight d).channel = d.channel := rfl
@[simp] theorem clearFlight_offers  (d : Device) : (clearFlight d).offers = d.offers := rfl
@[simp] theorem clearFlight_mail  (d : Device) : (clearFlight d).mail = d.mail := rfl
@[simp] theorem clearFlight_emergency  (d : Device) : (clearFlight d).emergency = d.emergency := rfl
@[simp] theorem clearFlight_sign  (d : Device) : (clearFlight d).sign = d.sign := rfl
@[simp] theorem clearFlight_link  (d : Device) : (clearFlight d).link = d.link := rfl
@[simp] theorem clearFlight_items  (d : Device) : (clearFlight d).items = d.items := rfl
@[simp] theorem clearFlight_backed  (d : Device) : (clearFlight d).backed = d.backed := rfl
@[simp] theorem clearFlight_radio  (d : Device) : (clearFlight d).radio = d.radio := rfl
@[simp] theorem clearFlight_ahead  (d : Device) : (clearFlight d).ahead = d.ahead := rfl
@[simp] theorem clearFlight_draws  (d : Device) : (clearFlight d).draws = d.draws := rfl

@[simp] theorem setPhase_pins (n : Nat) (p : FlightPhase) (d : Device) : (setPhase n p d).pins = d.pins := rfl
@[simp] theorem setPhase_vehicle (n : Nat) (p : FlightPhase) (d : Device) : (setPhase n p d).vehicle = d.vehicle := rfl
@[simp] theorem setPhase_tariff (n : Nat) (p : FlightPhase) (d : Device) : (setPhase n p d).tariff = d.tariff := rfl
@[simp] theorem setPhase_meter (n : Nat) (p : FlightPhase) (d : Device) : (setPhase n p d).meter = d.meter := rfl
@[simp] theorem setPhase_store (n : Nat) (p : FlightPhase) (d : Device) : (setPhase n p d).store = d.store := rfl
@[simp] theorem setPhase_channel (n : Nat) (p : FlightPhase) (d : Device) : (setPhase n p d).channel = d.channel := rfl
@[simp] theorem setPhase_offers (n : Nat) (p : FlightPhase) (d : Device) : (setPhase n p d).offers = d.offers := rfl
@[simp] theorem setPhase_mail (n : Nat) (p : FlightPhase) (d : Device) : (setPhase n p d).mail = d.mail := rfl
@[simp] theorem setPhase_emergency (n : Nat) (p : FlightPhase) (d : Device) : (setPhase n p d).emergency = d.emergency := rfl
@[simp] theorem setPhase_sign (n : Nat) (p : FlightPhase) (d : Device) : (setPhase n p d).sign = d.sign := rfl
@[simp] theorem setPhase_link (n : Nat) (p : FlightPhase) (d : Device) : (setPhase n p d).link = d.link := rfl
@[simp] theorem setPhase_items (n : Nat) (p : FlightPhase) (d : Device) : (setPhase n p d).items = d.items := rfl
@[simp] theorem setPhase_backed (n : Nat) (p : FlightPhase) (d : Device) : (setPhase n p d).backed = d.backed := rfl
@[simp] theorem setPhase_radio (n : Nat) (p : FlightPhase) (d : Device) : (setPhase n p d).radio = d.radio := rfl
@[simp] theorem setPhase_ahead (n : Nat) (p : FlightPhase) (d : Device) : (setPhase n p d).ahead = d.ahead := rfl
@[simp] theorem setPhase_draws (n : Nat) (p : FlightPhase) (d : Device) : (setPhase n p d).draws = d.draws := rfl

@[simp] theorem settleEntries_pins  (d : Device) : (settleEntries d).pins = d.pins := rfl
@[simp] theorem settleEntries_vehicle  (d : Device) : (settleEntries d).vehicle = d.vehicle := rfl
@[simp] theorem settleEntries_tariff  (d : Device) : (settleEntries d).tariff = d.tariff := rfl
@[simp] theorem settleEntries_meter  (d : Device) : (settleEntries d).meter = d.meter := rfl
@[simp] theorem settleEntries_store  (d : Device) : (settleEntries d).store = d.store := rfl
@[simp] theorem settleEntries_channel  (d : Device) : (settleEntries d).channel = d.channel := rfl
@[simp] theorem settleEntries_offers  (d : Device) : (settleEntries d).offers = d.offers := rfl
@[simp] theorem settleEntries_mail  (d : Device) : (settleEntries d).mail = d.mail := rfl
@[simp] theorem settleEntries_emergency  (d : Device) : (settleEntries d).emergency = d.emergency := rfl
@[simp] theorem settleEntries_sign  (d : Device) : (settleEntries d).sign = d.sign := rfl
@[simp] theorem settleEntries_link  (d : Device) : (settleEntries d).link = d.link := rfl
@[simp] theorem settleEntries_items  (d : Device) : (settleEntries d).items = d.items := rfl
@[simp] theorem settleEntries_backed  (d : Device) : (settleEntries d).backed = d.backed := rfl
@[simp] theorem settleEntries_radio  (d : Device) : (settleEntries d).radio = d.radio := rfl
@[simp] theorem settleEntries_ahead  (d : Device) : (settleEntries d).ahead = d.ahead := rfl
@[simp] theorem settleEntries_draws  (d : Device) : (settleEntries d).draws = d.draws := rfl

@[simp] theorem send_pins (n : Nat) (b : UplinkBlock) (d : Device) : (send n b d).pins = d.pins := rfl
@[simp] theorem send_vehicle (n : Nat) (b : UplinkBlock) (d : Device) : (send n b d).vehicle = d.vehicle := rfl
@[simp] theorem send_tariff (n : Nat) (b : UplinkBlock) (d : Device) : (send n b d).tariff = d.tariff := rfl
@[simp] theorem send_meter (n : Nat) (b : UplinkBlock) (d : Device) : (send n b d).meter = d.meter := rfl
@[simp] theorem send_store (n : Nat) (b : UplinkBlock) (d : Device) : (send n b d).store = d.store := rfl
@[simp] theorem send_channel (n : Nat) (b : UplinkBlock) (d : Device) : (send n b d).channel = d.channel := rfl
@[simp] theorem send_uplink (n : Nat) (b : UplinkBlock) (d : Device) : (send n b d).uplink = d.uplink := rfl
@[simp] theorem send_offers (n : Nat) (b : UplinkBlock) (d : Device) : (send n b d).offers = d.offers := rfl
@[simp] theorem send_mail (n : Nat) (b : UplinkBlock) (d : Device) : (send n b d).mail = d.mail := rfl
@[simp] theorem send_emergency (n : Nat) (b : UplinkBlock) (d : Device) : (send n b d).emergency = d.emergency := rfl
@[simp] theorem send_sign (n : Nat) (b : UplinkBlock) (d : Device) : (send n b d).sign = d.sign := rfl
@[simp] theorem send_link (n : Nat) (b : UplinkBlock) (d : Device) : (send n b d).link = d.link := rfl
@[simp] theorem send_items (n : Nat) (b : UplinkBlock) (d : Device) : (send n b d).items = d.items := rfl
@[simp] theorem send_backed (n : Nat) (b : UplinkBlock) (d : Device) : (send n b d).backed = d.backed := rfl
@[simp] theorem send_ahead (n : Nat) (b : UplinkBlock) (d : Device) : (send n b d).ahead = d.ahead := rfl
@[simp] theorem send_draws (n : Nat) (b : UplinkBlock) (d : Device) : (send n b d).draws = d.draws := rfl

@[simp] theorem takeSlotZero_pins  (d : Device) : (takeSlotZero d).pins = d.pins := rfl
@[simp] theorem takeSlotZero_vehicle  (d : Device) : (takeSlotZero d).vehicle = d.vehicle := rfl
@[simp] theorem takeSlotZero_tariff  (d : Device) : (takeSlotZero d).tariff = d.tariff := rfl
@[simp] theorem takeSlotZero_meter  (d : Device) : (takeSlotZero d).meter = d.meter := rfl
@[simp] theorem takeSlotZero_store  (d : Device) : (takeSlotZero d).store = d.store := rfl
@[simp] theorem takeSlotZero_channel  (d : Device) : (takeSlotZero d).channel = d.channel := rfl
@[simp] theorem takeSlotZero_offers  (d : Device) : (takeSlotZero d).offers = d.offers := rfl
@[simp] theorem takeSlotZero_mail  (d : Device) : (takeSlotZero d).mail = d.mail := rfl
@[simp] theorem takeSlotZero_emergency  (d : Device) : (takeSlotZero d).emergency = d.emergency := rfl
@[simp] theorem takeSlotZero_sign  (d : Device) : (takeSlotZero d).sign = d.sign := rfl
@[simp] theorem takeSlotZero_link  (d : Device) : (takeSlotZero d).link = d.link := rfl
@[simp] theorem takeSlotZero_items  (d : Device) : (takeSlotZero d).items = d.items := rfl
@[simp] theorem takeSlotZero_backed  (d : Device) : (takeSlotZero d).backed = d.backed := rfl
@[simp] theorem takeSlotZero_radio  (d : Device) : (takeSlotZero d).radio = d.radio := rfl
@[simp] theorem takeSlotZero_ahead  (d : Device) : (takeSlotZero d).ahead = d.ahead := rfl
@[simp] theorem takeSlotZero_draws  (d : Device) : (takeSlotZero d).draws = d.draws := rfl

@[simp] theorem takePoll_pins (n : Nat) (d : Device) : (takePoll n d).pins = d.pins := rfl
@[simp] theorem takePoll_vehicle (n : Nat) (d : Device) : (takePoll n d).vehicle = d.vehicle := rfl
@[simp] theorem takePoll_tariff (n : Nat) (d : Device) : (takePoll n d).tariff = d.tariff := rfl
@[simp] theorem takePoll_meter (n : Nat) (d : Device) : (takePoll n d).meter = d.meter := rfl
@[simp] theorem takePoll_store (n : Nat) (d : Device) : (takePoll n d).store = d.store := rfl
@[simp] theorem takePoll_channel (n : Nat) (d : Device) : (takePoll n d).channel = d.channel := rfl
@[simp] theorem takePoll_offers (n : Nat) (d : Device) : (takePoll n d).offers = d.offers := rfl
@[simp] theorem takePoll_mail (n : Nat) (d : Device) : (takePoll n d).mail = d.mail := rfl
@[simp] theorem takePoll_emergency (n : Nat) (d : Device) : (takePoll n d).emergency = d.emergency := rfl
@[simp] theorem takePoll_sign (n : Nat) (d : Device) : (takePoll n d).sign = d.sign := rfl
@[simp] theorem takePoll_link (n : Nat) (d : Device) : (takePoll n d).link = d.link := rfl
@[simp] theorem takePoll_items (n : Nat) (d : Device) : (takePoll n d).items = d.items := rfl
@[simp] theorem takePoll_backed (n : Nat) (d : Device) : (takePoll n d).backed = d.backed := rfl
@[simp] theorem takePoll_radio (n : Nat) (d : Device) : (takePoll n d).radio = d.radio := rfl
@[simp] theorem takePoll_ahead (n : Nat) (d : Device) : (takePoll n d).ahead = d.ahead := rfl
@[simp] theorem takePoll_draws (n : Nat) (d : Device) : (takePoll n d).draws = d.draws := rfl

@[simp] theorem takeContention_pins  (d : Device) : (takeContention d).pins = d.pins := rfl
@[simp] theorem takeContention_vehicle  (d : Device) : (takeContention d).vehicle = d.vehicle := rfl
@[simp] theorem takeContention_tariff  (d : Device) : (takeContention d).tariff = d.tariff := rfl
@[simp] theorem takeContention_meter  (d : Device) : (takeContention d).meter = d.meter := rfl
@[simp] theorem takeContention_store  (d : Device) : (takeContention d).store = d.store := rfl
@[simp] theorem takeContention_channel  (d : Device) : (takeContention d).channel = d.channel := rfl
@[simp] theorem takeContention_offers  (d : Device) : (takeContention d).offers = d.offers := rfl
@[simp] theorem takeContention_mail  (d : Device) : (takeContention d).mail = d.mail := rfl
@[simp] theorem takeContention_emergency  (d : Device) : (takeContention d).emergency = d.emergency := rfl
@[simp] theorem takeContention_sign  (d : Device) : (takeContention d).sign = d.sign := rfl
@[simp] theorem takeContention_link  (d : Device) : (takeContention d).link = d.link := rfl
@[simp] theorem takeContention_items  (d : Device) : (takeContention d).items = d.items := rfl
@[simp] theorem takeContention_backed  (d : Device) : (takeContention d).backed = d.backed := rfl
@[simp] theorem takeContention_radio  (d : Device) : (takeContention d).radio = d.radio := rfl
@[simp] theorem takeContention_ahead  (d : Device) : (takeContention d).ahead = d.ahead := rfl
@[simp] theorem takeContention_draws  (d : Device) : (takeContention d).draws = d.draws := rfl

@[simp] theorem setLoad_pins (s : Option Staging) (d : Device) : (setLoad s d).pins = d.pins := rfl
@[simp] theorem setLoad_vehicle (s : Option Staging) (d : Device) : (setLoad s d).vehicle = d.vehicle := rfl
@[simp] theorem setLoad_meter (s : Option Staging) (d : Device) : (setLoad s d).meter = d.meter := rfl
@[simp] theorem setLoad_store (s : Option Staging) (d : Device) : (setLoad s d).store = d.store := rfl
@[simp] theorem setLoad_channel (s : Option Staging) (d : Device) : (setLoad s d).channel = d.channel := rfl
@[simp] theorem setLoad_uplink (s : Option Staging) (d : Device) : (setLoad s d).uplink = d.uplink := rfl
@[simp] theorem setLoad_offers (s : Option Staging) (d : Device) : (setLoad s d).offers = d.offers := rfl
@[simp] theorem setLoad_mail (s : Option Staging) (d : Device) : (setLoad s d).mail = d.mail := rfl
@[simp] theorem setLoad_emergency (s : Option Staging) (d : Device) : (setLoad s d).emergency = d.emergency := rfl
@[simp] theorem setLoad_sign (s : Option Staging) (d : Device) : (setLoad s d).sign = d.sign := rfl
@[simp] theorem setLoad_link (s : Option Staging) (d : Device) : (setLoad s d).link = d.link := rfl
@[simp] theorem setLoad_items (s : Option Staging) (d : Device) : (setLoad s d).items = d.items := rfl
@[simp] theorem setLoad_backed (s : Option Staging) (d : Device) : (setLoad s d).backed = d.backed := rfl
@[simp] theorem setLoad_radio (s : Option Staging) (d : Device) : (setLoad s d).radio = d.radio := rfl
@[simp] theorem setLoad_ahead (s : Option Staging) (d : Device) : (setLoad s d).ahead = d.ahead := rfl
@[simp] theorem setLoad_draws (s : Option Staging) (d : Device) : (setLoad s d).draws = d.draws := rfl

@[simp] theorem onItems_pins (f : Items → Items) (d : Device) : (onItems f d).pins = d.pins := rfl
@[simp] theorem onItems_vehicle (f : Items → Items) (d : Device) : (onItems f d).vehicle = d.vehicle := rfl
@[simp] theorem onItems_tariff (f : Items → Items) (d : Device) : (onItems f d).tariff = d.tariff := rfl
@[simp] theorem onItems_meter (f : Items → Items) (d : Device) : (onItems f d).meter = d.meter := rfl
@[simp] theorem onItems_store (f : Items → Items) (d : Device) : (onItems f d).store = d.store := rfl
@[simp] theorem onItems_channel (f : Items → Items) (d : Device) : (onItems f d).channel = d.channel := rfl
@[simp] theorem onItems_uplink (f : Items → Items) (d : Device) : (onItems f d).uplink = d.uplink := rfl
@[simp] theorem onItems_offers (f : Items → Items) (d : Device) : (onItems f d).offers = d.offers := rfl
@[simp] theorem onItems_mail (f : Items → Items) (d : Device) : (onItems f d).mail = d.mail := rfl
@[simp] theorem onItems_emergency (f : Items → Items) (d : Device) : (onItems f d).emergency = d.emergency := rfl
@[simp] theorem onItems_sign (f : Items → Items) (d : Device) : (onItems f d).sign = d.sign := rfl
@[simp] theorem onItems_link (f : Items → Items) (d : Device) : (onItems f d).link = d.link := rfl
@[simp] theorem onItems_backed (f : Items → Items) (d : Device) : (onItems f d).backed = d.backed := rfl
@[simp] theorem onItems_radio (f : Items → Items) (d : Device) : (onItems f d).radio = d.radio := rfl
@[simp] theorem onItems_ahead (f : Items → Items) (d : Device) : (onItems f d).ahead = d.ahead := rfl
@[simp] theorem onItems_draws (f : Items → Items) (d : Device) : (onItems f d).draws = d.draws := rfl

@[simp] theorem setRx_pins (r : Receiver) (d : Device) : (setRx r d).pins = d.pins := rfl
@[simp] theorem setRx_vehicle (r : Receiver) (d : Device) : (setRx r d).vehicle = d.vehicle := rfl
@[simp] theorem setRx_tariff (r : Receiver) (d : Device) : (setRx r d).tariff = d.tariff := rfl
@[simp] theorem setRx_meter (r : Receiver) (d : Device) : (setRx r d).meter = d.meter := rfl
@[simp] theorem setRx_store (r : Receiver) (d : Device) : (setRx r d).store = d.store := rfl
@[simp] theorem setRx_channel (r : Receiver) (d : Device) : (setRx r d).channel = d.channel := rfl
@[simp] theorem setRx_uplink (r : Receiver) (d : Device) : (setRx r d).uplink = d.uplink := rfl
@[simp] theorem setRx_offers (r : Receiver) (d : Device) : (setRx r d).offers = d.offers := rfl
@[simp] theorem setRx_mail (r : Receiver) (d : Device) : (setRx r d).mail = d.mail := rfl
@[simp] theorem setRx_emergency (r : Receiver) (d : Device) : (setRx r d).emergency = d.emergency := rfl
@[simp] theorem setRx_sign (r : Receiver) (d : Device) : (setRx r d).sign = d.sign := rfl
@[simp] theorem setRx_items (r : Receiver) (d : Device) : (setRx r d).items = d.items := rfl
@[simp] theorem setRx_backed (r : Receiver) (d : Device) : (setRx r d).backed = d.backed := rfl
@[simp] theorem setRx_radio (r : Receiver) (d : Device) : (setRx r d).radio = d.radio := rfl
@[simp] theorem setRx_ahead (r : Receiver) (d : Device) : (setRx r d).ahead = d.ahead := rfl
@[simp] theorem setRx_draws (r : Receiver) (d : Device) : (setRx r d).draws = d.draws := rfl

@[simp] theorem dropFrame_pins  (d : Device) : (dropFrame d).pins = d.pins := rfl
@[simp] theorem dropFrame_vehicle  (d : Device) : (dropFrame d).vehicle = d.vehicle := rfl
@[simp] theorem dropFrame_tariff  (d : Device) : (dropFrame d).tariff = d.tariff := rfl
@[simp] theorem dropFrame_meter  (d : Device) : (dropFrame d).meter = d.meter := rfl
@[simp] theorem dropFrame_store  (d : Device) : (dropFrame d).store = d.store := rfl
@[simp] theorem dropFrame_channel  (d : Device) : (dropFrame d).channel = d.channel := rfl
@[simp] theorem dropFrame_uplink  (d : Device) : (dropFrame d).uplink = d.uplink := rfl
@[simp] theorem dropFrame_offers  (d : Device) : (dropFrame d).offers = d.offers := rfl
@[simp] theorem dropFrame_mail  (d : Device) : (dropFrame d).mail = d.mail := rfl
@[simp] theorem dropFrame_emergency  (d : Device) : (dropFrame d).emergency = d.emergency := rfl
@[simp] theorem dropFrame_sign  (d : Device) : (dropFrame d).sign = d.sign := rfl
@[simp] theorem dropFrame_items  (d : Device) : (dropFrame d).items = d.items := rfl
@[simp] theorem dropFrame_backed  (d : Device) : (dropFrame d).backed = d.backed := rfl
@[simp] theorem dropFrame_radio  (d : Device) : (dropFrame d).radio = d.radio := rfl
@[simp] theorem dropFrame_ahead  (d : Device) : (dropFrame d).ahead = d.ahead := rfl
@[simp] theorem dropFrame_draws  (d : Device) : (dropFrame d).draws = d.draws := rfl

@[simp] theorem replyWaits_pins (r : Reply) (d : Device) : (replyWaits r d).pins = d.pins := rfl
@[simp] theorem replyWaits_vehicle (r : Reply) (d : Device) : (replyWaits r d).vehicle = d.vehicle := rfl
@[simp] theorem replyWaits_tariff (r : Reply) (d : Device) : (replyWaits r d).tariff = d.tariff := rfl
@[simp] theorem replyWaits_meter (r : Reply) (d : Device) : (replyWaits r d).meter = d.meter := rfl
@[simp] theorem replyWaits_store (r : Reply) (d : Device) : (replyWaits r d).store = d.store := rfl
@[simp] theorem replyWaits_channel (r : Reply) (d : Device) : (replyWaits r d).channel = d.channel := rfl
@[simp] theorem replyWaits_uplink (r : Reply) (d : Device) : (replyWaits r d).uplink = d.uplink := rfl
@[simp] theorem replyWaits_offers (r : Reply) (d : Device) : (replyWaits r d).offers = d.offers := rfl
@[simp] theorem replyWaits_mail (r : Reply) (d : Device) : (replyWaits r d).mail = d.mail := rfl
@[simp] theorem replyWaits_emergency (r : Reply) (d : Device) : (replyWaits r d).emergency = d.emergency := rfl
@[simp] theorem replyWaits_sign (r : Reply) (d : Device) : (replyWaits r d).sign = d.sign := rfl
@[simp] theorem replyWaits_items (r : Reply) (d : Device) : (replyWaits r d).items = d.items := rfl
@[simp] theorem replyWaits_backed (r : Reply) (d : Device) : (replyWaits r d).backed = d.backed := rfl
@[simp] theorem replyWaits_radio (r : Reply) (d : Device) : (replyWaits r d).radio = d.radio := rfl
@[simp] theorem replyWaits_ahead (r : Reply) (d : Device) : (replyWaits r d).ahead = d.ahead := rfl
@[simp] theorem replyWaits_draws (r : Reply) (d : Device) : (replyWaits r d).draws = d.draws := rfl

@[simp] theorem takeInHand_pins (f : Frame) (l : List Frame) (d : Device) : (takeInHand f l d).pins = d.pins := rfl
@[simp] theorem takeInHand_vehicle (f : Frame) (l : List Frame) (d : Device) : (takeInHand f l d).vehicle = d.vehicle := rfl
@[simp] theorem takeInHand_tariff (f : Frame) (l : List Frame) (d : Device) : (takeInHand f l d).tariff = d.tariff := rfl
@[simp] theorem takeInHand_meter (f : Frame) (l : List Frame) (d : Device) : (takeInHand f l d).meter = d.meter := rfl
@[simp] theorem takeInHand_store (f : Frame) (l : List Frame) (d : Device) : (takeInHand f l d).store = d.store := rfl
@[simp] theorem takeInHand_channel (f : Frame) (l : List Frame) (d : Device) : (takeInHand f l d).channel = d.channel := rfl
@[simp] theorem takeInHand_uplink (f : Frame) (l : List Frame) (d : Device) : (takeInHand f l d).uplink = d.uplink := rfl
@[simp] theorem takeInHand_offers (f : Frame) (l : List Frame) (d : Device) : (takeInHand f l d).offers = d.offers := rfl
@[simp] theorem takeInHand_mail (f : Frame) (l : List Frame) (d : Device) : (takeInHand f l d).mail = d.mail := rfl
@[simp] theorem takeInHand_emergency (f : Frame) (l : List Frame) (d : Device) : (takeInHand f l d).emergency = d.emergency := rfl
@[simp] theorem takeInHand_sign (f : Frame) (l : List Frame) (d : Device) : (takeInHand f l d).sign = d.sign := rfl
@[simp] theorem takeInHand_items (f : Frame) (l : List Frame) (d : Device) : (takeInHand f l d).items = d.items := rfl
@[simp] theorem takeInHand_backed (f : Frame) (l : List Frame) (d : Device) : (takeInHand f l d).backed = d.backed := rfl
@[simp] theorem takeInHand_radio (f : Frame) (l : List Frame) (d : Device) : (takeInHand f l d).radio = d.radio := rfl
@[simp] theorem takeInHand_ahead (f : Frame) (l : List Frame) (d : Device) : (takeInHand f l d).ahead = d.ahead := rfl
@[simp] theorem takeInHand_draws (f : Frame) (l : List Frame) (d : Device) : (takeInHand f l d).draws = d.draws := rfl

@[simp] theorem refreshSign_pins  (d : Device) : (refreshSign d).pins = d.pins := rfl
@[simp] theorem refreshSign_vehicle  (d : Device) : (refreshSign d).vehicle = d.vehicle := rfl
@[simp] theorem refreshSign_tariff  (d : Device) : (refreshSign d).tariff = d.tariff := rfl
@[simp] theorem refreshSign_meter  (d : Device) : (refreshSign d).meter = d.meter := rfl
@[simp] theorem refreshSign_store  (d : Device) : (refreshSign d).store = d.store := rfl
@[simp] theorem refreshSign_channel  (d : Device) : (refreshSign d).channel = d.channel := rfl
@[simp] theorem refreshSign_uplink  (d : Device) : (refreshSign d).uplink = d.uplink := rfl
@[simp] theorem refreshSign_offers  (d : Device) : (refreshSign d).offers = d.offers := rfl
@[simp] theorem refreshSign_mail  (d : Device) : (refreshSign d).mail = d.mail := rfl
@[simp] theorem refreshSign_emergency  (d : Device) : (refreshSign d).emergency = d.emergency := rfl
@[simp] theorem refreshSign_link  (d : Device) : (refreshSign d).link = d.link := rfl
@[simp] theorem refreshSign_items  (d : Device) : (refreshSign d).items = d.items := rfl
@[simp] theorem refreshSign_backed  (d : Device) : (refreshSign d).backed = d.backed := rfl
@[simp] theorem refreshSign_radio  (d : Device) : (refreshSign d).radio = d.radio := rfl
@[simp] theorem refreshSign_ahead  (d : Device) : (refreshSign d).ahead = d.ahead := rfl
@[simp] theorem refreshSign_draws  (d : Device) : (refreshSign d).draws = d.draws := rfl

@[simp] theorem flashStep_pins  (d : Device) : (flashStep d).pins = d.pins := rfl
@[simp] theorem flashStep_vehicle  (d : Device) : (flashStep d).vehicle = d.vehicle := rfl
@[simp] theorem flashStep_tariff  (d : Device) : (flashStep d).tariff = d.tariff := rfl
@[simp] theorem flashStep_meter  (d : Device) : (flashStep d).meter = d.meter := rfl
@[simp] theorem flashStep_store  (d : Device) : (flashStep d).store = d.store := rfl
@[simp] theorem flashStep_channel  (d : Device) : (flashStep d).channel = d.channel := rfl
@[simp] theorem flashStep_uplink  (d : Device) : (flashStep d).uplink = d.uplink := rfl
@[simp] theorem flashStep_offers  (d : Device) : (flashStep d).offers = d.offers := rfl
@[simp] theorem flashStep_mail  (d : Device) : (flashStep d).mail = d.mail := rfl
@[simp] theorem flashStep_emergency  (d : Device) : (flashStep d).emergency = d.emergency := rfl
@[simp] theorem flashStep_link  (d : Device) : (flashStep d).link = d.link := rfl
@[simp] theorem flashStep_items  (d : Device) : (flashStep d).items = d.items := rfl
@[simp] theorem flashStep_backed  (d : Device) : (flashStep d).backed = d.backed := rfl
@[simp] theorem flashStep_radio  (d : Device) : (flashStep d).radio = d.radio := rfl
@[simp] theorem flashStep_ahead  (d : Device) : (flashStep d).ahead = d.ahead := rfl
@[simp] theorem flashStep_draws  (d : Device) : (flashStep d).draws = d.draws := rfl

@[simp] theorem displaySent_pins  (d : Device) : (displaySent d).pins = d.pins := rfl
@[simp] theorem displaySent_vehicle  (d : Device) : (displaySent d).vehicle = d.vehicle := rfl
@[simp] theorem displaySent_tariff  (d : Device) : (displaySent d).tariff = d.tariff := rfl
@[simp] theorem displaySent_meter  (d : Device) : (displaySent d).meter = d.meter := rfl
@[simp] theorem displaySent_store  (d : Device) : (displaySent d).store = d.store := rfl
@[simp] theorem displaySent_channel  (d : Device) : (displaySent d).channel = d.channel := rfl
@[simp] theorem displaySent_uplink  (d : Device) : (displaySent d).uplink = d.uplink := rfl
@[simp] theorem displaySent_offers  (d : Device) : (displaySent d).offers = d.offers := rfl
@[simp] theorem displaySent_mail  (d : Device) : (displaySent d).mail = d.mail := rfl
@[simp] theorem displaySent_emergency  (d : Device) : (displaySent d).emergency = d.emergency := rfl
@[simp] theorem displaySent_link  (d : Device) : (displaySent d).link = d.link := rfl
@[simp] theorem displaySent_items  (d : Device) : (displaySent d).items = d.items := rfl
@[simp] theorem displaySent_backed  (d : Device) : (displaySent d).backed = d.backed := rfl
@[simp] theorem displaySent_radio  (d : Device) : (displaySent d).radio = d.radio := rfl
@[simp] theorem displaySent_ahead  (d : Device) : (displaySent d).ahead = d.ahead := rfl
@[simp] theorem displaySent_draws  (d : Device) : (displaySent d).draws = d.draws := rfl

@[simp] theorem windowTick_pins  (d : Device) : (windowTick d).pins = d.pins := rfl
@[simp] theorem windowTick_vehicle  (d : Device) : (windowTick d).vehicle = d.vehicle := rfl
@[simp] theorem windowTick_tariff  (d : Device) : (windowTick d).tariff = d.tariff := rfl
@[simp] theorem windowTick_store  (d : Device) : (windowTick d).store = d.store := rfl
@[simp] theorem windowTick_channel  (d : Device) : (windowTick d).channel = d.channel := rfl
@[simp] theorem windowTick_uplink  (d : Device) : (windowTick d).uplink = d.uplink := rfl
@[simp] theorem windowTick_offers  (d : Device) : (windowTick d).offers = d.offers := rfl
@[simp] theorem windowTick_mail  (d : Device) : (windowTick d).mail = d.mail := rfl
@[simp] theorem windowTick_emergency  (d : Device) : (windowTick d).emergency = d.emergency := rfl
@[simp] theorem windowTick_sign  (d : Device) : (windowTick d).sign = d.sign := rfl
@[simp] theorem windowTick_link  (d : Device) : (windowTick d).link = d.link := rfl
@[simp] theorem windowTick_items  (d : Device) : (windowTick d).items = d.items := rfl
@[simp] theorem windowTick_backed  (d : Device) : (windowTick d).backed = d.backed := rfl
@[simp] theorem windowTick_radio  (d : Device) : (windowTick d).radio = d.radio := rfl
@[simp] theorem windowTick_ahead  (d : Device) : (windowTick d).ahead = d.ahead := rfl
@[simp] theorem windowTick_draws  (d : Device) : (windowTick d).draws = d.draws := rfl

@[simp] theorem lifetimeTotal_pins (p : Nat) (d : Device) : (lifetimeTotal p d).pins = d.pins := rfl
@[simp] theorem lifetimeTotal_vehicle (p : Nat) (d : Device) : (lifetimeTotal p d).vehicle = d.vehicle := rfl
@[simp] theorem lifetimeTotal_meter (p : Nat) (d : Device) : (lifetimeTotal p d).meter = d.meter := rfl
@[simp] theorem lifetimeTotal_store (p : Nat) (d : Device) : (lifetimeTotal p d).store = d.store := rfl
@[simp] theorem lifetimeTotal_channel (p : Nat) (d : Device) : (lifetimeTotal p d).channel = d.channel := rfl
@[simp] theorem lifetimeTotal_uplink (p : Nat) (d : Device) : (lifetimeTotal p d).uplink = d.uplink := rfl
@[simp] theorem lifetimeTotal_offers (p : Nat) (d : Device) : (lifetimeTotal p d).offers = d.offers := rfl
@[simp] theorem lifetimeTotal_mail (p : Nat) (d : Device) : (lifetimeTotal p d).mail = d.mail := rfl
@[simp] theorem lifetimeTotal_emergency (p : Nat) (d : Device) : (lifetimeTotal p d).emergency = d.emergency := rfl
@[simp] theorem lifetimeTotal_sign (p : Nat) (d : Device) : (lifetimeTotal p d).sign = d.sign := rfl
@[simp] theorem lifetimeTotal_link (p : Nat) (d : Device) : (lifetimeTotal p d).link = d.link := rfl
@[simp] theorem lifetimeTotal_items (p : Nat) (d : Device) : (lifetimeTotal p d).items = d.items := rfl
@[simp] theorem lifetimeTotal_backed (p : Nat) (d : Device) : (lifetimeTotal p d).backed = d.backed := rfl
@[simp] theorem lifetimeTotal_radio (p : Nat) (d : Device) : (lifetimeTotal p d).radio = d.radio := rfl
@[simp] theorem lifetimeTotal_ahead (p : Nat) (d : Device) : (lifetimeTotal p d).ahead = d.ahead := rfl
@[simp] theorem lifetimeTotal_draws (p : Nat) (d : Device) : (lifetimeTotal p d).draws = d.draws := rfl

@[simp] theorem lifetimeHired_pins (p : Nat) (d : Device) : (lifetimeHired p d).pins = d.pins := rfl
@[simp] theorem lifetimeHired_vehicle (p : Nat) (d : Device) : (lifetimeHired p d).vehicle = d.vehicle := rfl
@[simp] theorem lifetimeHired_meter (p : Nat) (d : Device) : (lifetimeHired p d).meter = d.meter := rfl
@[simp] theorem lifetimeHired_store (p : Nat) (d : Device) : (lifetimeHired p d).store = d.store := rfl
@[simp] theorem lifetimeHired_channel (p : Nat) (d : Device) : (lifetimeHired p d).channel = d.channel := rfl
@[simp] theorem lifetimeHired_uplink (p : Nat) (d : Device) : (lifetimeHired p d).uplink = d.uplink := rfl
@[simp] theorem lifetimeHired_offers (p : Nat) (d : Device) : (lifetimeHired p d).offers = d.offers := rfl
@[simp] theorem lifetimeHired_mail (p : Nat) (d : Device) : (lifetimeHired p d).mail = d.mail := rfl
@[simp] theorem lifetimeHired_emergency (p : Nat) (d : Device) : (lifetimeHired p d).emergency = d.emergency := rfl
@[simp] theorem lifetimeHired_sign (p : Nat) (d : Device) : (lifetimeHired p d).sign = d.sign := rfl
@[simp] theorem lifetimeHired_link (p : Nat) (d : Device) : (lifetimeHired p d).link = d.link := rfl
@[simp] theorem lifetimeHired_items (p : Nat) (d : Device) : (lifetimeHired p d).items = d.items := rfl
@[simp] theorem lifetimeHired_backed (p : Nat) (d : Device) : (lifetimeHired p d).backed = d.backed := rfl
@[simp] theorem lifetimeHired_radio (p : Nat) (d : Device) : (lifetimeHired p d).radio = d.radio := rfl
@[simp] theorem lifetimeHired_ahead (p : Nat) (d : Device) : (lifetimeHired p d).ahead = d.ahead := rfl
@[simp] theorem lifetimeHired_draws (p : Nat) (d : Device) : (lifetimeHired p d).draws = d.draws := rfl

@[simp] theorem resetLink_pins  (d : Device) : (resetLink d).pins = d.pins := rfl
@[simp] theorem resetLink_vehicle  (d : Device) : (resetLink d).vehicle = d.vehicle := rfl
@[simp] theorem resetLink_tariff  (d : Device) : (resetLink d).tariff = d.tariff := rfl
@[simp] theorem resetLink_meter  (d : Device) : (resetLink d).meter = d.meter := rfl
@[simp] theorem resetLink_store  (d : Device) : (resetLink d).store = d.store := rfl
@[simp] theorem resetLink_channel  (d : Device) : (resetLink d).channel = d.channel := rfl
@[simp] theorem resetLink_uplink  (d : Device) : (resetLink d).uplink = d.uplink := rfl
@[simp] theorem resetLink_offers  (d : Device) : (resetLink d).offers = d.offers := rfl
@[simp] theorem resetLink_mail  (d : Device) : (resetLink d).mail = d.mail := rfl
@[simp] theorem resetLink_emergency  (d : Device) : (resetLink d).emergency = d.emergency := rfl
@[simp] theorem resetLink_sign  (d : Device) : (resetLink d).sign = d.sign := rfl
@[simp] theorem resetLink_items  (d : Device) : (resetLink d).items = d.items := rfl
@[simp] theorem resetLink_backed  (d : Device) : (resetLink d).backed = d.backed := rfl
@[simp] theorem resetLink_radio  (d : Device) : (resetLink d).radio = d.radio := rfl
@[simp] theorem resetLink_ahead  (d : Device) : (resetLink d).ahead = d.ahead := rfl
@[simp] theorem resetLink_draws  (d : Device) : (resetLink d).draws = d.draws := rfl

end Sys2Proof.Machine
end

