-- ==== Sys2Proof/Laws/Ops.lean ====
section
/-! SUPPORT. What each shared operation leaves alone: for every operation and every block it does not write, one lemma. -/

namespace Sys2Proof.Machine

open Sys2Proof

/-! ### Notices, the transmitter, the sign and the display -/

@[simp] theorem notify_pins (n : Notice) (d : Device) : (notify n d).pins = d.pins := by
  unfold notify; split <;> simp
@[simp] theorem notify_vehicle (n : Notice) (d : Device) : (notify n d).vehicle = d.vehicle := by
  unfold notify; split <;> simp
@[simp] theorem notify_tariff (n : Notice) (d : Device) : (notify n d).tariff = d.tariff := by
  unfold notify; split <;> simp
@[simp] theorem notify_meter (n : Notice) (d : Device) : (notify n d).meter = d.meter := by
  unfold notify; split <;> simp
@[simp] theorem notify_store (n : Notice) (d : Device) : (notify n d).store = d.store := by
  unfold notify; split <;> simp
@[simp] theorem notify_channel (n : Notice) (d : Device) : (notify n d).channel = d.channel := by
  unfold notify; split <;> simp
@[simp] theorem notify_uplink (n : Notice) (d : Device) : (notify n d).uplink = d.uplink := by
  unfold notify; split <;> simp
@[simp] theorem notify_offers (n : Notice) (d : Device) : (notify n d).offers = d.offers := by
  unfold notify; split <;> simp
@[simp] theorem notify_mail (n : Notice) (d : Device) : (notify n d).mail = d.mail := by
  unfold notify; split <;> simp
@[simp] theorem notify_emergency (n : Notice) (d : Device) : (notify n d).emergency = d.emergency := by
  unfold notify; split <;> simp
@[simp] theorem notify_sign (n : Notice) (d : Device) : (notify n d).sign = d.sign := by
  unfold notify; split <;> simp
@[simp] theorem notify_items (n : Notice) (d : Device) : (notify n d).items = d.items := by
  unfold notify; split <;> simp
@[simp] theorem notify_backed (n : Notice) (d : Device) : (notify n d).backed = d.backed := by
  unfold notify; split <;> simp
@[simp] theorem notify_radio (n : Notice) (d : Device) : (notify n d).radio = d.radio := by
  unfold notify; split <;> simp
@[simp] theorem notify_ahead (n : Notice) (d : Device) : (notify n d).ahead = d.ahead := by
  unfold notify; split <;> simp
@[simp] theorem notify_draws (n : Notice) (d : Device) : (notify n d).draws = d.draws := by
  unfold notify; split <;> simp

@[simp] theorem notifyIf_pins (b : Bool) (n : Notice) (d : Device) : (notifyIf b n d).pins = d.pins := by
  unfold notifyIf; split <;> simp
@[simp] theorem notifyIf_vehicle (b : Bool) (n : Notice) (d : Device) : (notifyIf b n d).vehicle = d.vehicle := by
  unfold notifyIf; split <;> simp
@[simp] theorem notifyIf_tariff (b : Bool) (n : Notice) (d : Device) : (notifyIf b n d).tariff = d.tariff := by
  unfold notifyIf; split <;> simp
@[simp] theorem notifyIf_meter (b : Bool) (n : Notice) (d : Device) : (notifyIf b n d).meter = d.meter := by
  unfold notifyIf; split <;> simp
@[simp] theorem notifyIf_store (b : Bool) (n : Notice) (d : Device) : (notifyIf b n d).store = d.store := by
  unfold notifyIf; split <;> simp
@[simp] theorem notifyIf_channel (b : Bool) (n : Notice) (d : Device) : (notifyIf b n d).channel = d.channel := by
  unfold notifyIf; split <;> simp
@[simp] theorem notifyIf_uplink (b : Bool) (n : Notice) (d : Device) : (notifyIf b n d).uplink = d.uplink := by
  unfold notifyIf; split <;> simp
@[simp] theorem notifyIf_offers (b : Bool) (n : Notice) (d : Device) : (notifyIf b n d).offers = d.offers := by
  unfold notifyIf; split <;> simp
@[simp] theorem notifyIf_mail (b : Bool) (n : Notice) (d : Device) : (notifyIf b n d).mail = d.mail := by
  unfold notifyIf; split <;> simp
@[simp] theorem notifyIf_emergency (b : Bool) (n : Notice) (d : Device) : (notifyIf b n d).emergency = d.emergency := by
  unfold notifyIf; split <;> simp
@[simp] theorem notifyIf_sign (b : Bool) (n : Notice) (d : Device) : (notifyIf b n d).sign = d.sign := by
  unfold notifyIf; split <;> simp
@[simp] theorem notifyIf_items (b : Bool) (n : Notice) (d : Device) : (notifyIf b n d).items = d.items := by
  unfold notifyIf; split <;> simp
@[simp] theorem notifyIf_backed (b : Bool) (n : Notice) (d : Device) : (notifyIf b n d).backed = d.backed := by
  unfold notifyIf; split <;> simp
@[simp] theorem notifyIf_radio (b : Bool) (n : Notice) (d : Device) : (notifyIf b n d).radio = d.radio := by
  unfold notifyIf; split <;> simp
@[simp] theorem notifyIf_ahead (b : Bool) (n : Notice) (d : Device) : (notifyIf b n d).ahead = d.ahead := by
  unfold notifyIf; split <;> simp
@[simp] theorem notifyIf_draws (b : Bool) (n : Notice) (d : Device) : (notifyIf b n d).draws = d.draws := by
  unfold notifyIf; split <;> simp

@[simp] theorem pump_pins (d : Device) : (pump d).pins = d.pins := by
  unfold pump; split <;> (try split) <;> (try split) <;> (try split) <;> rfl
@[simp] theorem pump_vehicle (d : Device) : (pump d).vehicle = d.vehicle := by
  unfold pump; split <;> (try split) <;> (try split) <;> (try split) <;> rfl
@[simp] theorem pump_tariff (d : Device) : (pump d).tariff = d.tariff := by
  unfold pump; split <;> (try split) <;> (try split) <;> (try split) <;> rfl
@[simp] theorem pump_meter (d : Device) : (pump d).meter = d.meter := by
  unfold pump; split <;> (try split) <;> (try split) <;> (try split) <;> rfl
@[simp] theorem pump_store (d : Device) : (pump d).store = d.store := by
  unfold pump; split <;> (try split) <;> (try split) <;> (try split) <;> rfl
@[simp] theorem pump_channel (d : Device) : (pump d).channel = d.channel := by
  unfold pump; split <;> (try split) <;> (try split) <;> (try split) <;> rfl
@[simp] theorem pump_uplink (d : Device) : (pump d).uplink = d.uplink := by
  unfold pump; split <;> (try split) <;> (try split) <;> (try split) <;> rfl
@[simp] theorem pump_offers (d : Device) : (pump d).offers = d.offers := by
  unfold pump; split <;> (try split) <;> (try split) <;> (try split) <;> rfl
@[simp] theorem pump_mail (d : Device) : (pump d).mail = d.mail := by
  unfold pump; split <;> (try split) <;> (try split) <;> (try split) <;> rfl
@[simp] theorem pump_emergency (d : Device) : (pump d).emergency = d.emergency := by
  unfold pump; split <;> (try split) <;> (try split) <;> (try split) <;> rfl
@[simp] theorem pump_sign (d : Device) : (pump d).sign = d.sign := by
  unfold pump; split <;> (try split) <;> (try split) <;> (try split) <;> rfl
@[simp] theorem pump_items (d : Device) : (pump d).items = d.items := by
  unfold pump; split <;> (try split) <;> (try split) <;> (try split) <;> rfl
@[simp] theorem pump_backed (d : Device) : (pump d).backed = d.backed := by
  unfold pump; split <;> (try split) <;> (try split) <;> (try split) <;> rfl
@[simp] theorem pump_radio (d : Device) : (pump d).radio = d.radio := by
  unfold pump; split <;> (try split) <;> (try split) <;> (try split) <;> rfl
@[simp] theorem pump_ahead (d : Device) : (pump d).ahead = d.ahead := by
  unfold pump; split <;> (try split) <;> (try split) <;> (try split) <;> rfl
@[simp] theorem pump_draws (d : Device) : (pump d).draws = d.draws := by
  unfold pump; split <;> (try split) <;> (try split) <;> (try split) <;> rfl

@[simp] theorem sendRecord_pins (r : DisplayRecord) (d : Device) : (sendRecord r d).pins = d.pins := by
  unfold sendRecord; split <;> rfl
@[simp] theorem sendRecord_vehicle (r : DisplayRecord) (d : Device) : (sendRecord r d).vehicle = d.vehicle := by
  unfold sendRecord; split <;> rfl
@[simp] theorem sendRecord_tariff (r : DisplayRecord) (d : Device) : (sendRecord r d).tariff = d.tariff := by
  unfold sendRecord; split <;> rfl
@[simp] theorem sendRecord_meter (r : DisplayRecord) (d : Device) : (sendRecord r d).meter = d.meter := by
  unfold sendRecord; split <;> rfl
@[simp] theorem sendRecord_store (r : DisplayRecord) (d : Device) : (sendRecord r d).store = d.store := by
  unfold sendRecord; split <;> rfl
@[simp] theorem sendRecord_channel (r : DisplayRecord) (d : Device) : (sendRecord r d).channel = d.channel := by
  unfold sendRecord; split <;> rfl
@[simp] theorem sendRecord_uplink (r : DisplayRecord) (d : Device) : (sendRecord r d).uplink = d.uplink := by
  unfold sendRecord; split <;> rfl
@[simp] theorem sendRecord_offers (r : DisplayRecord) (d : Device) : (sendRecord r d).offers = d.offers := by
  unfold sendRecord; split <;> rfl
@[simp] theorem sendRecord_mail (r : DisplayRecord) (d : Device) : (sendRecord r d).mail = d.mail := by
  unfold sendRecord; split <;> rfl
@[simp] theorem sendRecord_emergency (r : DisplayRecord) (d : Device) : (sendRecord r d).emergency = d.emergency := by
  unfold sendRecord; split <;> rfl
@[simp] theorem sendRecord_link (r : DisplayRecord) (d : Device) : (sendRecord r d).link = d.link := by
  unfold sendRecord; split <;> rfl
@[simp] theorem sendRecord_items (r : DisplayRecord) (d : Device) : (sendRecord r d).items = d.items := by
  unfold sendRecord; split <;> rfl
@[simp] theorem sendRecord_backed (r : DisplayRecord) (d : Device) : (sendRecord r d).backed = d.backed := by
  unfold sendRecord; split <;> rfl
@[simp] theorem sendRecord_radio (r : DisplayRecord) (d : Device) : (sendRecord r d).radio = d.radio := by
  unfold sendRecord; split <;> rfl
@[simp] theorem sendRecord_ahead (r : DisplayRecord) (d : Device) : (sendRecord r d).ahead = d.ahead := by
  unfold sendRecord; split <;> rfl
@[simp] theorem sendRecord_draws (r : DisplayRecord) (d : Device) : (sendRecord r d).draws = d.draws := by
  unfold sendRecord; split <;> rfl

@[simp] theorem refreshDisplay_pins (d : Device) : (refreshDisplay d).pins = d.pins := by
  unfold refreshDisplay; split <;> simp
@[simp] theorem refreshDisplay_vehicle (d : Device) : (refreshDisplay d).vehicle = d.vehicle := by
  unfold refreshDisplay; split <;> simp
@[simp] theorem refreshDisplay_tariff (d : Device) : (refreshDisplay d).tariff = d.tariff := by
  unfold refreshDisplay; split <;> simp
@[simp] theorem refreshDisplay_meter (d : Device) : (refreshDisplay d).meter = d.meter := by
  unfold refreshDisplay; split <;> simp
@[simp] theorem refreshDisplay_store (d : Device) : (refreshDisplay d).store = d.store := by
  unfold refreshDisplay; split <;> simp
@[simp] theorem refreshDisplay_channel (d : Device) : (refreshDisplay d).channel = d.channel := by
  unfold refreshDisplay; split <;> simp
@[simp] theorem refreshDisplay_uplink (d : Device) : (refreshDisplay d).uplink = d.uplink := by
  unfold refreshDisplay; split <;> simp
@[simp] theorem refreshDisplay_offers (d : Device) : (refreshDisplay d).offers = d.offers := by
  unfold refreshDisplay; split <;> simp
@[simp] theorem refreshDisplay_mail (d : Device) : (refreshDisplay d).mail = d.mail := by
  unfold refreshDisplay; split <;> simp
@[simp] theorem refreshDisplay_emergency (d : Device) : (refreshDisplay d).emergency = d.emergency := by
  unfold refreshDisplay; split <;> simp
@[simp] theorem refreshDisplay_link (d : Device) : (refreshDisplay d).link = d.link := by
  unfold refreshDisplay; split <;> simp
@[simp] theorem refreshDisplay_items (d : Device) : (refreshDisplay d).items = d.items := by
  unfold refreshDisplay; split <;> simp
@[simp] theorem refreshDisplay_backed (d : Device) : (refreshDisplay d).backed = d.backed := by
  unfold refreshDisplay; split <;> simp
@[simp] theorem refreshDisplay_radio (d : Device) : (refreshDisplay d).radio = d.radio := by
  unfold refreshDisplay; split <;> simp
@[simp] theorem refreshDisplay_ahead (d : Device) : (refreshDisplay d).ahead = d.ahead := by
  unfold refreshDisplay; split <;> simp
@[simp] theorem refreshDisplay_draws (d : Device) : (refreshDisplay d).draws = d.draws := by
  unfold refreshDisplay; split <;> simp

@[simp] theorem refresh_pins (d : Device) : (refresh d).pins = d.pins := by
  simp [refresh]
@[simp] theorem refresh_vehicle (d : Device) : (refresh d).vehicle = d.vehicle := by
  simp [refresh]
@[simp] theorem refresh_tariff (d : Device) : (refresh d).tariff = d.tariff := by
  simp [refresh]
@[simp] theorem refresh_meter (d : Device) : (refresh d).meter = d.meter := by
  simp [refresh]
@[simp] theorem refresh_store (d : Device) : (refresh d).store = d.store := by
  simp [refresh]
@[simp] theorem refresh_channel (d : Device) : (refresh d).channel = d.channel := by
  simp [refresh]
@[simp] theorem refresh_uplink (d : Device) : (refresh d).uplink = d.uplink := by
  simp [refresh]
@[simp] theorem refresh_offers (d : Device) : (refresh d).offers = d.offers := by
  simp [refresh]
@[simp] theorem refresh_mail (d : Device) : (refresh d).mail = d.mail := by
  simp [refresh]
@[simp] theorem refresh_emergency (d : Device) : (refresh d).emergency = d.emergency := by
  simp [refresh]
@[simp] theorem refresh_link (d : Device) : (refresh d).link = d.link := by
  simp [refresh]
@[simp] theorem refresh_items (d : Device) : (refresh d).items = d.items := by
  simp [refresh]
@[simp] theorem refresh_backed (d : Device) : (refresh d).backed = d.backed := by
  simp [refresh]
@[simp] theorem refresh_radio (d : Device) : (refresh d).radio = d.radio := by
  simp [refresh]
@[simp] theorem refresh_ahead (d : Device) : (refresh d).ahead = d.ahead := by
  simp [refresh]
@[simp] theorem refresh_draws (d : Device) : (refresh d).draws = d.draws := by
  simp [refresh]

@[simp] theorem finish_pins (d : Device) : (finish d).pins = d.pins := by
  simp [finish]
@[simp] theorem finish_vehicle (d : Device) : (finish d).vehicle = d.vehicle := by
  simp [finish]
@[simp] theorem finish_tariff (d : Device) : (finish d).tariff = d.tariff := by
  simp [finish]
@[simp] theorem finish_meter (d : Device) : (finish d).meter = d.meter := by
  simp [finish]
@[simp] theorem finish_store (d : Device) : (finish d).store = d.store := by
  simp [finish]
@[simp] theorem finish_channel (d : Device) : (finish d).channel = d.channel := by
  simp [finish]
@[simp] theorem finish_uplink (d : Device) : (finish d).uplink = d.uplink := by
  simp [finish]
@[simp] theorem finish_offers (d : Device) : (finish d).offers = d.offers := by
  simp [finish]
@[simp] theorem finish_mail (d : Device) : (finish d).mail = d.mail := by
  simp [finish]
@[simp] theorem finish_emergency (d : Device) : (finish d).emergency = d.emergency := by
  simp [finish]
@[simp] theorem finish_items (d : Device) : (finish d).items = d.items := by
  simp [finish]
@[simp] theorem finish_backed (d : Device) : (finish d).backed = d.backed := by
  simp [finish]
@[simp] theorem finish_radio (d : Device) : (finish d).radio = d.radio := by
  simp [finish]
@[simp] theorem finish_ahead (d : Device) : (finish d).ahead = d.ahead := by
  simp [finish]
@[simp] theorem finish_draws (d : Device) : (finish d).draws = d.draws := by
  simp [finish]

@[simp] theorem endEvent_pins (d : Device) : (endEvent d).pins = d.pins := by
  unfold endEvent; split <;> simp
@[simp] theorem endEvent_vehicle (d : Device) : (endEvent d).vehicle = d.vehicle := by
  unfold endEvent; split <;> simp
@[simp] theorem endEvent_tariff (d : Device) : (endEvent d).tariff = d.tariff := by
  unfold endEvent; split <;> simp
@[simp] theorem endEvent_meter (d : Device) : (endEvent d).meter = d.meter := by
  unfold endEvent; split <;> simp
@[simp] theorem endEvent_store (d : Device) : (endEvent d).store = d.store := by
  unfold endEvent; split <;> simp
@[simp] theorem endEvent_channel (d : Device) : (endEvent d).channel = d.channel := by
  unfold endEvent; split <;> simp
@[simp] theorem endEvent_uplink (d : Device) : (endEvent d).uplink = d.uplink := by
  unfold endEvent; split <;> simp
@[simp] theorem endEvent_offers (d : Device) : (endEvent d).offers = d.offers := by
  unfold endEvent; split <;> simp
@[simp] theorem endEvent_mail (d : Device) : (endEvent d).mail = d.mail := by
  unfold endEvent; split <;> simp
@[simp] theorem endEvent_emergency (d : Device) : (endEvent d).emergency = d.emergency := by
  unfold endEvent; split <;> simp
@[simp] theorem endEvent_items (d : Device) : (endEvent d).items = d.items := by
  unfold endEvent; split <;> simp
@[simp] theorem endEvent_backed (d : Device) : (endEvent d).backed = d.backed := by
  unfold endEvent; split <;> simp
@[simp] theorem endEvent_radio (d : Device) : (endEvent d).radio = d.radio := by
  unfold endEvent; split <;> simp
@[simp] theorem endEvent_ahead (d : Device) : (endEvent d).ahead = d.ahead := by
  unfold endEvent; split <;> simp
@[simp] theorem endEvent_draws (d : Device) : (endEvent d).draws = d.draws := by
  unfold endEvent; split <;> simp

/-! ### The Uplink Queue's entries -/

@[simp] theorem ask_pins (m : Msg) (d : Device) : (ask m d).2.pins = d.pins := by
  unfold ask; split <;> (try split) <;> (try split) <;> (try split) <;> simp
@[simp] theorem ask_vehicle (m : Msg) (d : Device) : (ask m d).2.vehicle = d.vehicle := by
  unfold ask; split <;> (try split) <;> (try split) <;> (try split) <;> simp
@[simp] theorem ask_tariff (m : Msg) (d : Device) : (ask m d).2.tariff = d.tariff := by
  unfold ask; split <;> (try split) <;> (try split) <;> (try split) <;> simp
@[simp] theorem ask_meter (m : Msg) (d : Device) : (ask m d).2.meter = d.meter := by
  unfold ask; split <;> (try split) <;> (try split) <;> (try split) <;> simp
@[simp] theorem ask_store (m : Msg) (d : Device) : (ask m d).2.store = d.store := by
  unfold ask; split <;> (try split) <;> (try split) <;> (try split) <;> simp
@[simp] theorem ask_channel (m : Msg) (d : Device) : (ask m d).2.channel = d.channel := by
  unfold ask; split <;> (try split) <;> (try split) <;> (try split) <;> simp
@[simp] theorem ask_offers (m : Msg) (d : Device) : (ask m d).2.offers = d.offers := by
  unfold ask; split <;> (try split) <;> (try split) <;> (try split) <;> simp
@[simp] theorem ask_mail (m : Msg) (d : Device) : (ask m d).2.mail = d.mail := by
  unfold ask; split <;> (try split) <;> (try split) <;> (try split) <;> simp
@[simp] theorem ask_emergency (m : Msg) (d : Device) : (ask m d).2.emergency = d.emergency := by
  unfold ask; split <;> (try split) <;> (try split) <;> (try split) <;> simp
@[simp] theorem ask_sign (m : Msg) (d : Device) : (ask m d).2.sign = d.sign := by
  unfold ask; split <;> (try split) <;> (try split) <;> (try split) <;> simp
@[simp] theorem ask_link (m : Msg) (d : Device) : (ask m d).2.link = d.link := by
  unfold ask; split <;> (try split) <;> (try split) <;> (try split) <;> simp
@[simp] theorem ask_items (m : Msg) (d : Device) : (ask m d).2.items = d.items := by
  unfold ask; split <;> (try split) <;> (try split) <;> (try split) <;> simp
@[simp] theorem ask_backed (m : Msg) (d : Device) : (ask m d).2.backed = d.backed := by
  unfold ask; split <;> (try split) <;> (try split) <;> (try split) <;> simp
@[simp] theorem ask_radio (m : Msg) (d : Device) : (ask m d).2.radio = d.radio := by
  unfold ask; split <;> (try split) <;> (try split) <;> (try split) <;> simp
@[simp] theorem ask_ahead (m : Msg) (d : Device) : (ask m d).2.ahead = d.ahead := by
  unfold ask; split <;> (try split) <;> (try split) <;> (try split) <;> simp
@[simp] theorem ask_draws (m : Msg) (d : Device) : (ask m d).2.draws = d.draws := by
  unfold ask; split <;> (try split) <;> (try split) <;> (try split) <;> simp

@[simp] theorem askStatus_pins (d : Device) : (askStatus d).pins = d.pins := by
  simp [askStatus]
@[simp] theorem askStatus_vehicle (d : Device) : (askStatus d).vehicle = d.vehicle := by
  simp [askStatus]
@[simp] theorem askStatus_tariff (d : Device) : (askStatus d).tariff = d.tariff := by
  simp [askStatus]
@[simp] theorem askStatus_meter (d : Device) : (askStatus d).meter = d.meter := by
  simp [askStatus]
@[simp] theorem askStatus_store (d : Device) : (askStatus d).store = d.store := by
  simp [askStatus]
@[simp] theorem askStatus_channel (d : Device) : (askStatus d).channel = d.channel := by
  simp [askStatus]
@[simp] theorem askStatus_offers (d : Device) : (askStatus d).offers = d.offers := by
  simp [askStatus]
@[simp] theorem askStatus_mail (d : Device) : (askStatus d).mail = d.mail := by
  simp [askStatus]
@[simp] theorem askStatus_emergency (d : Device) : (askStatus d).emergency = d.emergency := by
  simp [askStatus]
@[simp] theorem askStatus_sign (d : Device) : (askStatus d).sign = d.sign := by
  simp [askStatus]
@[simp] theorem askStatus_link (d : Device) : (askStatus d).link = d.link := by
  simp [askStatus]
@[simp] theorem askStatus_items (d : Device) : (askStatus d).items = d.items := by
  simp [askStatus]
@[simp] theorem askStatus_backed (d : Device) : (askStatus d).backed = d.backed := by
  simp [askStatus]
@[simp] theorem askStatus_radio (d : Device) : (askStatus d).radio = d.radio := by
  simp [askStatus]
@[simp] theorem askStatus_ahead (d : Device) : (askStatus d).ahead = d.ahead := by
  simp [askStatus]
@[simp] theorem askStatus_draws (d : Device) : (askStatus d).draws = d.draws := by
  simp [askStatus]

@[simp] theorem askUnmetered_pins (d : Device) : (askUnmetered d).pins = d.pins := by
  simp [askUnmetered]
@[simp] theorem askUnmetered_vehicle (d : Device) : (askUnmetered d).vehicle = d.vehicle := by
  simp [askUnmetered]
@[simp] theorem askUnmetered_tariff (d : Device) : (askUnmetered d).tariff = d.tariff := by
  simp [askUnmetered]
@[simp] theorem askUnmetered_meter (d : Device) : (askUnmetered d).meter = d.meter := by
  simp [askUnmetered]
@[simp] theorem askUnmetered_store (d : Device) : (askUnmetered d).store = d.store := by
  simp [askUnmetered]
@[simp] theorem askUnmetered_channel (d : Device) : (askUnmetered d).channel = d.channel := by
  simp [askUnmetered]
@[simp] theorem askUnmetered_offers (d : Device) : (askUnmetered d).offers = d.offers := by
  simp [askUnmetered]
@[simp] theorem askUnmetered_mail (d : Device) : (askUnmetered d).mail = d.mail := by
  simp [askUnmetered]
@[simp] theorem askUnmetered_emergency (d : Device) : (askUnmetered d).emergency = d.emergency := by
  simp [askUnmetered]
@[simp] theorem askUnmetered_sign (d : Device) : (askUnmetered d).sign = d.sign := by
  simp [askUnmetered]
@[simp] theorem askUnmetered_link (d : Device) : (askUnmetered d).link = d.link := by
  simp [askUnmetered]
@[simp] theorem askUnmetered_items (d : Device) : (askUnmetered d).items = d.items := by
  simp [askUnmetered]
@[simp] theorem askUnmetered_backed (d : Device) : (askUnmetered d).backed = d.backed := by
  simp [askUnmetered]
@[simp] theorem askUnmetered_radio (d : Device) : (askUnmetered d).radio = d.radio := by
  simp [askUnmetered]
@[simp] theorem askUnmetered_ahead (d : Device) : (askUnmetered d).ahead = d.ahead := by
  simp [askUnmetered]
@[simp] theorem askUnmetered_draws (d : Device) : (askUnmetered d).draws = d.draws := by
  simp [askUnmetered]

@[simp] theorem makeAccounting_pins (d : Device) : (makeAccounting d).pins = d.pins := by
  unfold makeAccounting; split <;> (try split) <;> (try split) <;> simp
@[simp] theorem makeAccounting_vehicle (d : Device) : (makeAccounting d).vehicle = d.vehicle := by
  unfold makeAccounting; split <;> (try split) <;> (try split) <;> simp
@[simp] theorem makeAccounting_tariff (d : Device) : (makeAccounting d).tariff = d.tariff := by
  unfold makeAccounting; split <;> (try split) <;> (try split) <;> simp
@[simp] theorem makeAccounting_meter (d : Device) : (makeAccounting d).meter = d.meter := by
  unfold makeAccounting; split <;> (try split) <;> (try split) <;> simp
@[simp] theorem makeAccounting_store (d : Device) : (makeAccounting d).store = d.store := by
  unfold makeAccounting; split <;> (try split) <;> (try split) <;> simp
@[simp] theorem makeAccounting_channel (d : Device) : (makeAccounting d).channel = d.channel := by
  unfold makeAccounting; split <;> (try split) <;> (try split) <;> simp
@[simp] theorem makeAccounting_offers (d : Device) : (makeAccounting d).offers = d.offers := by
  unfold makeAccounting; split <;> (try split) <;> (try split) <;> simp
@[simp] theorem makeAccounting_mail (d : Device) : (makeAccounting d).mail = d.mail := by
  unfold makeAccounting; split <;> (try split) <;> (try split) <;> simp
@[simp] theorem makeAccounting_emergency (d : Device) : (makeAccounting d).emergency = d.emergency := by
  unfold makeAccounting; split <;> (try split) <;> (try split) <;> simp
@[simp] theorem makeAccounting_sign (d : Device) : (makeAccounting d).sign = d.sign := by
  unfold makeAccounting; split <;> (try split) <;> (try split) <;> simp
@[simp] theorem makeAccounting_link (d : Device) : (makeAccounting d).link = d.link := by
  unfold makeAccounting; split <;> (try split) <;> (try split) <;> simp
@[simp] theorem makeAccounting_items (d : Device) : (makeAccounting d).items = d.items := by
  unfold makeAccounting; split <;> (try split) <;> (try split) <;> simp
@[simp] theorem makeAccounting_backed (d : Device) : (makeAccounting d).backed = d.backed := by
  unfold makeAccounting; split <;> (try split) <;> (try split) <;> simp
@[simp] theorem makeAccounting_radio (d : Device) : (makeAccounting d).radio = d.radio := by
  unfold makeAccounting; split <;> (try split) <;> (try split) <;> simp
@[simp] theorem makeAccounting_ahead (d : Device) : (makeAccounting d).ahead = d.ahead := by
  unfold makeAccounting; split <;> (try split) <;> (try split) <;> simp
@[simp] theorem makeAccounting_draws (d : Device) : (makeAccounting d).draws = d.draws := by
  unfold makeAccounting; split <;> (try split) <;> (try split) <;> simp

/-- The pass over the receipts touches the queue alone (R156). -/
theorem receiptPass_keeps {γ : Type} (g : Device → γ) (h : ∀ m d, g (ask m d).2 = g d) (ms : List Mail) (d : Device) :
    g (receiptPass ms d).2 = g d := by
  induction ms generalizing d with
  | nil => rfl
  | cons m ms ih =>
    unfold receiptPass
    split
    · have hm := h (.readReceipt m.number) d
      generalize ask (.readReceipt m.number) d = r at hm
      obtain ⟨a, d'⟩ := r
      cases a <;> simp_all
    · exact ih d

@[simp] theorem offerReceipts_pins (d : Device) : (offerReceipts d).pins = d.pins :=
  receiptPass_keeps (fun x => x.pins) (fun m d => ask_pins m d) d.mail.mail d
@[simp] theorem offerReceipts_vehicle (d : Device) : (offerReceipts d).vehicle = d.vehicle :=
  receiptPass_keeps (fun x => x.vehicle) (fun m d => ask_vehicle m d) d.mail.mail d
@[simp] theorem offerReceipts_tariff (d : Device) : (offerReceipts d).tariff = d.tariff :=
  receiptPass_keeps (fun x => x.tariff) (fun m d => ask_tariff m d) d.mail.mail d
@[simp] theorem offerReceipts_meter (d : Device) : (offerReceipts d).meter = d.meter :=
  receiptPass_keeps (fun x => x.meter) (fun m d => ask_meter m d) d.mail.mail d
@[simp] theorem offerReceipts_store (d : Device) : (offerReceipts d).store = d.store :=
  receiptPass_keeps (fun x => x.store) (fun m d => ask_store m d) d.mail.mail d
@[simp] theorem offerReceipts_channel (d : Device) : (offerReceipts d).channel = d.channel :=
  receiptPass_keeps (fun x => x.channel) (fun m d => ask_channel m d) d.mail.mail d
@[simp] theorem offerReceipts_offers (d : Device) : (offerReceipts d).offers = d.offers :=
  receiptPass_keeps (fun x => x.offers) (fun m d => ask_offers m d) d.mail.mail d
@[simp] theorem offerReceipts_emergency (d : Device) : (offerReceipts d).emergency = d.emergency :=
  receiptPass_keeps (fun x => x.emergency) (fun m d => ask_emergency m d) d.mail.mail d
@[simp] theorem offerReceipts_sign (d : Device) : (offerReceipts d).sign = d.sign :=
  receiptPass_keeps (fun x => x.sign) (fun m d => ask_sign m d) d.mail.mail d
@[simp] theorem offerReceipts_link (d : Device) : (offerReceipts d).link = d.link :=
  receiptPass_keeps (fun x => x.link) (fun m d => ask_link m d) d.mail.mail d
@[simp] theorem offerReceipts_items (d : Device) : (offerReceipts d).items = d.items :=
  receiptPass_keeps (fun x => x.items) (fun m d => ask_items m d) d.mail.mail d
@[simp] theorem offerReceipts_backed (d : Device) : (offerReceipts d).backed = d.backed :=
  receiptPass_keeps (fun x => x.backed) (fun m d => ask_backed m d) d.mail.mail d
@[simp] theorem offerReceipts_radio (d : Device) : (offerReceipts d).radio = d.radio :=
  receiptPass_keeps (fun x => x.radio) (fun m d => ask_radio m d) d.mail.mail d
@[simp] theorem offerReceipts_ahead (d : Device) : (offerReceipts d).ahead = d.ahead :=
  receiptPass_keeps (fun x => x.ahead) (fun m d => ask_ahead m d) d.mail.mail d
@[simp] theorem offerReceipts_draws (d : Device) : (offerReceipts d).draws = d.draws :=
  receiptPass_keeps (fun x => x.draws) (fun m d => ask_draws m d) d.mail.mail d

@[simp] theorem offerRoom_pins (d : Device) : (offerRoom d).pins = d.pins := by
  simp only [offerRoom]; split <;> (try split) <;> (try split) <;> simp
@[simp] theorem offerRoom_vehicle (d : Device) : (offerRoom d).vehicle = d.vehicle := by
  simp only [offerRoom]; split <;> (try split) <;> (try split) <;> simp
@[simp] theorem offerRoom_tariff (d : Device) : (offerRoom d).tariff = d.tariff := by
  simp only [offerRoom]; split <;> (try split) <;> (try split) <;> simp
@[simp] theorem offerRoom_meter (d : Device) : (offerRoom d).meter = d.meter := by
  simp only [offerRoom]; split <;> (try split) <;> (try split) <;> simp
@[simp] theorem offerRoom_store (d : Device) : (offerRoom d).store = d.store := by
  simp only [offerRoom]; split <;> (try split) <;> (try split) <;> simp
@[simp] theorem offerRoom_channel (d : Device) : (offerRoom d).channel = d.channel := by
  simp only [offerRoom]; split <;> (try split) <;> (try split) <;> simp
@[simp] theorem offerRoom_offers (d : Device) : (offerRoom d).offers = d.offers := by
  simp only [offerRoom]; split <;> (try split) <;> (try split) <;> simp
@[simp] theorem offerRoom_emergency (d : Device) : (offerRoom d).emergency = d.emergency := by
  simp only [offerRoom]; split <;> (try split) <;> (try split) <;> simp
@[simp] theorem offerRoom_sign (d : Device) : (offerRoom d).sign = d.sign := by
  simp only [offerRoom]; split <;> (try split) <;> (try split) <;> simp
@[simp] theorem offerRoom_link (d : Device) : (offerRoom d).link = d.link := by
  simp only [offerRoom]; split <;> (try split) <;> (try split) <;> simp
@[simp] theorem offerRoom_items (d : Device) : (offerRoom d).items = d.items := by
  simp only [offerRoom]; split <;> (try split) <;> (try split) <;> simp
@[simp] theorem offerRoom_backed (d : Device) : (offerRoom d).backed = d.backed := by
  simp only [offerRoom]; split <;> (try split) <;> (try split) <;> simp
@[simp] theorem offerRoom_radio (d : Device) : (offerRoom d).radio = d.radio := by
  simp only [offerRoom]; split <;> (try split) <;> (try split) <;> simp
@[simp] theorem offerRoom_ahead (d : Device) : (offerRoom d).ahead = d.ahead := by
  simp only [offerRoom]; split <;> (try split) <;> (try split) <;> simp
@[simp] theorem offerRoom_draws (d : Device) : (offerRoom d).draws = d.draws := by
  simp only [offerRoom]; split <;> (try split) <;> (try split) <;> simp

@[simp] theorem dropEntry_pins (n : Nat) (d : Device) : (dropEntry n d).pins = d.pins := by
  simp [dropEntry]
@[simp] theorem dropEntry_vehicle (n : Nat) (d : Device) : (dropEntry n d).vehicle = d.vehicle := by
  simp [dropEntry]
@[simp] theorem dropEntry_tariff (n : Nat) (d : Device) : (dropEntry n d).tariff = d.tariff := by
  simp [dropEntry]
@[simp] theorem dropEntry_meter (n : Nat) (d : Device) : (dropEntry n d).meter = d.meter := by
  simp [dropEntry]
@[simp] theorem dropEntry_store (n : Nat) (d : Device) : (dropEntry n d).store = d.store := by
  simp [dropEntry]
@[simp] theorem dropEntry_channel (n : Nat) (d : Device) : (dropEntry n d).channel = d.channel := by
  simp [dropEntry]
@[simp] theorem dropEntry_offers (n : Nat) (d : Device) : (dropEntry n d).offers = d.offers := by
  simp [dropEntry]
@[simp] theorem dropEntry_emergency (n : Nat) (d : Device) : (dropEntry n d).emergency = d.emergency := by
  simp [dropEntry]
@[simp] theorem dropEntry_sign (n : Nat) (d : Device) : (dropEntry n d).sign = d.sign := by
  simp [dropEntry]
@[simp] theorem dropEntry_link (n : Nat) (d : Device) : (dropEntry n d).link = d.link := by
  simp [dropEntry]
@[simp] theorem dropEntry_items (n : Nat) (d : Device) : (dropEntry n d).items = d.items := by
  simp [dropEntry]
@[simp] theorem dropEntry_backed (n : Nat) (d : Device) : (dropEntry n d).backed = d.backed := by
  simp [dropEntry]
@[simp] theorem dropEntry_radio (n : Nat) (d : Device) : (dropEntry n d).radio = d.radio := by
  simp [dropEntry]
@[simp] theorem dropEntry_ahead (n : Nat) (d : Device) : (dropEntry n d).ahead = d.ahead := by
  simp [dropEntry]
@[simp] theorem dropEntry_draws (n : Nat) (d : Device) : (dropEntry n d).draws = d.draws := by
  simp [dropEntry]

@[simp] theorem removeBid_pins (j : Nat) (d : Device) : (removeBid j d).pins = d.pins := by
  unfold removeBid; split <;> simp
@[simp] theorem removeBid_vehicle (j : Nat) (d : Device) : (removeBid j d).vehicle = d.vehicle := by
  unfold removeBid; split <;> simp
@[simp] theorem removeBid_tariff (j : Nat) (d : Device) : (removeBid j d).tariff = d.tariff := by
  unfold removeBid; split <;> simp
@[simp] theorem removeBid_meter (j : Nat) (d : Device) : (removeBid j d).meter = d.meter := by
  unfold removeBid; split <;> simp
@[simp] theorem removeBid_store (j : Nat) (d : Device) : (removeBid j d).store = d.store := by
  unfold removeBid; split <;> simp
@[simp] theorem removeBid_channel (j : Nat) (d : Device) : (removeBid j d).channel = d.channel := by
  unfold removeBid; split <;> simp
@[simp] theorem removeBid_offers (j : Nat) (d : Device) : (removeBid j d).offers = d.offers := by
  unfold removeBid; split <;> simp
@[simp] theorem removeBid_emergency (j : Nat) (d : Device) : (removeBid j d).emergency = d.emergency := by
  unfold removeBid; split <;> simp
@[simp] theorem removeBid_sign (j : Nat) (d : Device) : (removeBid j d).sign = d.sign := by
  unfold removeBid; split <;> simp
@[simp] theorem removeBid_link (j : Nat) (d : Device) : (removeBid j d).link = d.link := by
  unfold removeBid; split <;> simp
@[simp] theorem removeBid_items (j : Nat) (d : Device) : (removeBid j d).items = d.items := by
  unfold removeBid; split <;> simp
@[simp] theorem removeBid_backed (j : Nat) (d : Device) : (removeBid j d).backed = d.backed := by
  unfold removeBid; split <;> simp
@[simp] theorem removeBid_radio (j : Nat) (d : Device) : (removeBid j d).radio = d.radio := by
  unfold removeBid; split <;> simp
@[simp] theorem removeBid_ahead (j : Nat) (d : Device) : (removeBid j d).ahead = d.ahead := by
  unfold removeBid; split <;> simp
@[simp] theorem removeBid_draws (j : Nat) (d : Device) : (removeBid j d).draws = d.draws := by
  unfold removeBid; split <;> simp

@[simp] theorem markRecordOf_pins (m : Msg) (k : Mark) (d : Device) : (markRecordOf m k d).pins = d.pins := by
  unfold markRecordOf; split <;> simp
@[simp] theorem markRecordOf_vehicle (m : Msg) (k : Mark) (d : Device) : (markRecordOf m k d).vehicle = d.vehicle := by
  unfold markRecordOf; split <;> simp
@[simp] theorem markRecordOf_tariff (m : Msg) (k : Mark) (d : Device) : (markRecordOf m k d).tariff = d.tariff := by
  unfold markRecordOf; split <;> simp
@[simp] theorem markRecordOf_meter (m : Msg) (k : Mark) (d : Device) : (markRecordOf m k d).meter = d.meter := by
  unfold markRecordOf; split <;> simp
@[simp] theorem markRecordOf_channel (m : Msg) (k : Mark) (d : Device) : (markRecordOf m k d).channel = d.channel := by
  unfold markRecordOf; split <;> simp
@[simp] theorem markRecordOf_uplink (m : Msg) (k : Mark) (d : Device) : (markRecordOf m k d).uplink = d.uplink := by
  unfold markRecordOf; split <;> simp
@[simp] theorem markRecordOf_offers (m : Msg) (k : Mark) (d : Device) : (markRecordOf m k d).offers = d.offers := by
  unfold markRecordOf; split <;> simp
@[simp] theorem markRecordOf_mail (m : Msg) (k : Mark) (d : Device) : (markRecordOf m k d).mail = d.mail := by
  unfold markRecordOf; split <;> simp
@[simp] theorem markRecordOf_emergency (m : Msg) (k : Mark) (d : Device) : (markRecordOf m k d).emergency = d.emergency := by
  unfold markRecordOf; split <;> simp
@[simp] theorem markRecordOf_sign (m : Msg) (k : Mark) (d : Device) : (markRecordOf m k d).sign = d.sign := by
  unfold markRecordOf; split <;> simp
@[simp] theorem markRecordOf_link (m : Msg) (k : Mark) (d : Device) : (markRecordOf m k d).link = d.link := by
  unfold markRecordOf; split <;> simp
@[simp] theorem markRecordOf_items (m : Msg) (k : Mark) (d : Device) : (markRecordOf m k d).items = d.items := by
  unfold markRecordOf; split <;> simp
@[simp] theorem markRecordOf_backed (m : Msg) (k : Mark) (d : Device) : (markRecordOf m k d).backed = d.backed := by
  unfold markRecordOf; split <;> simp
@[simp] theorem markRecordOf_radio (m : Msg) (k : Mark) (d : Device) : (markRecordOf m k d).radio = d.radio := by
  unfold markRecordOf; split <;> simp
@[simp] theorem markRecordOf_ahead (m : Msg) (k : Mark) (d : Device) : (markRecordOf m k d).ahead = d.ahead := by
  unfold markRecordOf; split <;> simp
@[simp] theorem markRecordOf_draws (m : Msg) (k : Mark) (d : Device) : (markRecordOf m k d).draws = d.draws := by
  unfold markRecordOf; split <;> simp

@[simp] theorem groundInFlight_pins (d : Device) : (groundInFlight d).pins = d.pins := by
  unfold groundInFlight; split <;> (try split) <;> simp
@[simp] theorem groundInFlight_vehicle (d : Device) : (groundInFlight d).vehicle = d.vehicle := by
  unfold groundInFlight; split <;> (try split) <;> simp
@[simp] theorem groundInFlight_tariff (d : Device) : (groundInFlight d).tariff = d.tariff := by
  unfold groundInFlight; split <;> (try split) <;> simp
@[simp] theorem groundInFlight_meter (d : Device) : (groundInFlight d).meter = d.meter := by
  unfold groundInFlight; split <;> (try split) <;> simp
@[simp] theorem groundInFlight_channel (d : Device) : (groundInFlight d).channel = d.channel := by
  unfold groundInFlight; split <;> (try split) <;> simp
@[simp] theorem groundInFlight_offers (d : Device) : (groundInFlight d).offers = d.offers := by
  unfold groundInFlight; split <;> (try split) <;> simp
@[simp] theorem groundInFlight_mail (d : Device) : (groundInFlight d).mail = d.mail := by
  unfold groundInFlight; split <;> (try split) <;> simp
@[simp] theorem groundInFlight_emergency (d : Device) : (groundInFlight d).emergency = d.emergency := by
  unfold groundInFlight; split <;> (try split) <;> simp
@[simp] theorem groundInFlight_sign (d : Device) : (groundInFlight d).sign = d.sign := by
  unfold groundInFlight; split <;> (try split) <;> simp
@[simp] theorem groundInFlight_link (d : Device) : (groundInFlight d).link = d.link := by
  unfold groundInFlight; split <;> (try split) <;> simp
@[simp] theorem groundInFlight_items (d : Device) : (groundInFlight d).items = d.items := by
  unfold groundInFlight; split <;> (try split) <;> simp
@[simp] theorem groundInFlight_backed (d : Device) : (groundInFlight d).backed = d.backed := by
  unfold groundInFlight; split <;> (try split) <;> simp
@[simp] theorem groundInFlight_radio (d : Device) : (groundInFlight d).radio = d.radio := by
  unfold groundInFlight; split <;> (try split) <;> simp
@[simp] theorem groundInFlight_ahead (d : Device) : (groundInFlight d).ahead = d.ahead := by
  unfold groundInFlight; split <;> (try split) <;> simp
@[simp] theorem groundInFlight_draws (d : Device) : (groundInFlight d).draws = d.draws := by
  unfold groundInFlight; split <;> (try split) <;> simp

@[simp] theorem revertInFlight_pins (d : Device) : (revertInFlight d).pins = d.pins := by
  simp [revertInFlight]
@[simp] theorem revertInFlight_vehicle (d : Device) : (revertInFlight d).vehicle = d.vehicle := by
  simp [revertInFlight]
@[simp] theorem revertInFlight_tariff (d : Device) : (revertInFlight d).tariff = d.tariff := by
  simp [revertInFlight]
@[simp] theorem revertInFlight_meter (d : Device) : (revertInFlight d).meter = d.meter := by
  simp [revertInFlight]
@[simp] theorem revertInFlight_channel (d : Device) : (revertInFlight d).channel = d.channel := by
  simp [revertInFlight]
@[simp] theorem revertInFlight_offers (d : Device) : (revertInFlight d).offers = d.offers := by
  simp [revertInFlight]
@[simp] theorem revertInFlight_mail (d : Device) : (revertInFlight d).mail = d.mail := by
  simp [revertInFlight]
@[simp] theorem revertInFlight_emergency (d : Device) : (revertInFlight d).emergency = d.emergency := by
  simp [revertInFlight]
@[simp] theorem revertInFlight_sign (d : Device) : (revertInFlight d).sign = d.sign := by
  simp [revertInFlight]
@[simp] theorem revertInFlight_link (d : Device) : (revertInFlight d).link = d.link := by
  simp [revertInFlight]
@[simp] theorem revertInFlight_items (d : Device) : (revertInFlight d).items = d.items := by
  simp [revertInFlight]
@[simp] theorem revertInFlight_backed (d : Device) : (revertInFlight d).backed = d.backed := by
  simp [revertInFlight]
@[simp] theorem revertInFlight_radio (d : Device) : (revertInFlight d).radio = d.radio := by
  simp [revertInFlight]
@[simp] theorem revertInFlight_ahead (d : Device) : (revertInFlight d).ahead = d.ahead := by
  simp [revertInFlight]
@[simp] theorem revertInFlight_draws (d : Device) : (revertInFlight d).draws = d.draws := by
  simp [revertInFlight]

/-- A fold of changes that each leave a part of the state alone leaves it alone. -/
theorem foldl_keeps {α β γ : Type} (f : β → α → β) (g : β → γ) (h : ∀ b a, g (f b a) = g b) (l : List α) (b : β) :
    g (l.foldl f b) = g b := by
  induction l generalizing b with
  | nil => rfl
  | cons a l ih => simp [ih, h]

@[simp] theorem holdTick_pins (d : Device) : (holdTick d).pins = d.pins := by
  simp only [holdTick]; rw [foldl_keeps (fun x (e : Entry) => markRecordOf e.msg .waiting x) (fun x => x.pins) (by simp)]
@[simp] theorem takeHoldEnd_pins (d : Device) : (takeHoldEnd d).pins = d.pins := by
  simp only [takeHoldEnd]; rw [foldl_keeps (fun x (e : Entry) => markRecordOf e.msg .waiting x) (fun x => x.pins) (by simp)]
@[simp] theorem holdTick_vehicle (d : Device) : (holdTick d).vehicle = d.vehicle := by
  simp only [holdTick]; rw [foldl_keeps (fun x (e : Entry) => markRecordOf e.msg .waiting x) (fun x => x.vehicle) (by simp)]
@[simp] theorem takeHoldEnd_vehicle (d : Device) : (takeHoldEnd d).vehicle = d.vehicle := by
  simp only [takeHoldEnd]; rw [foldl_keeps (fun x (e : Entry) => markRecordOf e.msg .waiting x) (fun x => x.vehicle) (by simp)]
@[simp] theorem holdTick_tariff (d : Device) : (holdTick d).tariff = d.tariff := by
  simp only [holdTick]; rw [foldl_keeps (fun x (e : Entry) => markRecordOf e.msg .waiting x) (fun x => x.tariff) (by simp)]
@[simp] theorem takeHoldEnd_tariff (d : Device) : (takeHoldEnd d).tariff = d.tariff := by
  simp only [takeHoldEnd]; rw [foldl_keeps (fun x (e : Entry) => markRecordOf e.msg .waiting x) (fun x => x.tariff) (by simp)]
@[simp] theorem holdTick_meter (d : Device) : (holdTick d).meter = d.meter := by
  simp only [holdTick]; rw [foldl_keeps (fun x (e : Entry) => markRecordOf e.msg .waiting x) (fun x => x.meter) (by simp)]
@[simp] theorem takeHoldEnd_meter (d : Device) : (takeHoldEnd d).meter = d.meter := by
  simp only [takeHoldEnd]; rw [foldl_keeps (fun x (e : Entry) => markRecordOf e.msg .waiting x) (fun x => x.meter) (by simp)]
@[simp] theorem holdTick_channel (d : Device) : (holdTick d).channel = d.channel := by
  simp only [holdTick]; rw [foldl_keeps (fun x (e : Entry) => markRecordOf e.msg .waiting x) (fun x => x.channel) (by simp)]
@[simp] theorem takeHoldEnd_channel (d : Device) : (takeHoldEnd d).channel = d.channel := by
  simp only [takeHoldEnd]; rw [foldl_keeps (fun x (e : Entry) => markRecordOf e.msg .waiting x) (fun x => x.channel) (by simp)]
@[simp] theorem holdTick_offers (d : Device) : (holdTick d).offers = d.offers := by
  simp only [holdTick]; rw [foldl_keeps (fun x (e : Entry) => markRecordOf e.msg .waiting x) (fun x => x.offers) (by simp)]
@[simp] theorem takeHoldEnd_offers (d : Device) : (takeHoldEnd d).offers = d.offers := by
  simp only [takeHoldEnd]; rw [foldl_keeps (fun x (e : Entry) => markRecordOf e.msg .waiting x) (fun x => x.offers) (by simp)]
@[simp] theorem holdTick_mail (d : Device) : (holdTick d).mail = d.mail := by
  simp only [holdTick]; rw [foldl_keeps (fun x (e : Entry) => markRecordOf e.msg .waiting x) (fun x => x.mail) (by simp)]
@[simp] theorem takeHoldEnd_mail (d : Device) : (takeHoldEnd d).mail = d.mail := by
  simp only [takeHoldEnd]; rw [foldl_keeps (fun x (e : Entry) => markRecordOf e.msg .waiting x) (fun x => x.mail) (by simp)]
@[simp] theorem holdTick_emergency (d : Device) : (holdTick d).emergency = d.emergency := by
  simp only [holdTick]; rw [foldl_keeps (fun x (e : Entry) => markRecordOf e.msg .waiting x) (fun x => x.emergency) (by simp)]
@[simp] theorem takeHoldEnd_emergency (d : Device) : (takeHoldEnd d).emergency = d.emergency := by
  simp only [takeHoldEnd]; rw [foldl_keeps (fun x (e : Entry) => markRecordOf e.msg .waiting x) (fun x => x.emergency) (by simp)]
@[simp] theorem holdTick_sign (d : Device) : (holdTick d).sign = d.sign := by
  simp only [holdTick]; rw [foldl_keeps (fun x (e : Entry) => markRecordOf e.msg .waiting x) (fun x => x.sign) (by simp)]
@[simp] theorem takeHoldEnd_sign (d : Device) : (takeHoldEnd d).sign = d.sign := by
  simp only [takeHoldEnd]; rw [foldl_keeps (fun x (e : Entry) => markRecordOf e.msg .waiting x) (fun x => x.sign) (by simp)]
@[simp] theorem holdTick_link (d : Device) : (holdTick d).link = d.link := by
  simp only [holdTick]; rw [foldl_keeps (fun x (e : Entry) => markRecordOf e.msg .waiting x) (fun x => x.link) (by simp)]
@[simp] theorem takeHoldEnd_link (d : Device) : (takeHoldEnd d).link = d.link := by
  simp only [takeHoldEnd]; rw [foldl_keeps (fun x (e : Entry) => markRecordOf e.msg .waiting x) (fun x => x.link) (by simp)]
@[simp] theorem holdTick_items (d : Device) : (holdTick d).items = d.items := by
  simp only [holdTick]; rw [foldl_keeps (fun x (e : Entry) => markRecordOf e.msg .waiting x) (fun x => x.items) (by simp)]
@[simp] theorem takeHoldEnd_items (d : Device) : (takeHoldEnd d).items = d.items := by
  simp only [takeHoldEnd]; rw [foldl_keeps (fun x (e : Entry) => markRecordOf e.msg .waiting x) (fun x => x.items) (by simp)]
@[simp] theorem holdTick_backed (d : Device) : (holdTick d).backed = d.backed := by
  simp only [holdTick]; rw [foldl_keeps (fun x (e : Entry) => markRecordOf e.msg .waiting x) (fun x => x.backed) (by simp)]
@[simp] theorem takeHoldEnd_backed (d : Device) : (takeHoldEnd d).backed = d.backed := by
  simp only [takeHoldEnd]; rw [foldl_keeps (fun x (e : Entry) => markRecordOf e.msg .waiting x) (fun x => x.backed) (by simp)]
@[simp] theorem holdTick_radio (d : Device) : (holdTick d).radio = d.radio := by
  simp only [holdTick]; rw [foldl_keeps (fun x (e : Entry) => markRecordOf e.msg .waiting x) (fun x => x.radio) (by simp)]
@[simp] theorem takeHoldEnd_radio (d : Device) : (takeHoldEnd d).radio = d.radio := by
  simp only [takeHoldEnd]; rw [foldl_keeps (fun x (e : Entry) => markRecordOf e.msg .waiting x) (fun x => x.radio) (by simp)]
@[simp] theorem holdTick_ahead (d : Device) : (holdTick d).ahead = d.ahead := by
  simp only [holdTick]; rw [foldl_keeps (fun x (e : Entry) => markRecordOf e.msg .waiting x) (fun x => x.ahead) (by simp)]
@[simp] theorem takeHoldEnd_ahead (d : Device) : (takeHoldEnd d).ahead = d.ahead := by
  simp only [takeHoldEnd]; rw [foldl_keeps (fun x (e : Entry) => markRecordOf e.msg .waiting x) (fun x => x.ahead) (by simp)]
@[simp] theorem holdTick_draws (d : Device) : (holdTick d).draws = d.draws := by
  simp only [holdTick]; rw [foldl_keeps (fun x (e : Entry) => markRecordOf e.msg .waiting x) (fun x => x.draws) (by simp)]
@[simp] theorem takeHoldEnd_draws (d : Device) : (takeHoldEnd d).draws = d.draws := by
  simp only [takeHoldEnd]; rw [foldl_keeps (fun x (e : Entry) => markRecordOf e.msg .waiting x) (fun x => x.draws) (by simp)]

/-! ### The Offer Table -/

@[simp] theorem promote_pins (d : Device) : (promote d).pins = d.pins := by
  unfold promote; split <;> simp
@[simp] theorem promote_vehicle (d : Device) : (promote d).vehicle = d.vehicle := by
  unfold promote; split <;> simp
@[simp] theorem promote_tariff (d : Device) : (promote d).tariff = d.tariff := by
  unfold promote; split <;> simp
@[simp] theorem promote_meter (d : Device) : (promote d).meter = d.meter := by
  unfold promote; split <;> simp
@[simp] theorem promote_store (d : Device) : (promote d).store = d.store := by
  unfold promote; split <;> simp
@[simp] theorem promote_channel (d : Device) : (promote d).channel = d.channel := by
  unfold promote; split <;> simp
@[simp] theorem promote_uplink (d : Device) : (promote d).uplink = d.uplink := by
  unfold promote; split <;> simp
@[simp] theorem promote_mail (d : Device) : (promote d).mail = d.mail := by
  unfold promote; split <;> simp
@[simp] theorem promote_emergency (d : Device) : (promote d).emergency = d.emergency := by
  unfold promote; split <;> simp
@[simp] theorem promote_sign (d : Device) : (promote d).sign = d.sign := by
  unfold promote; split <;> simp
@[simp] theorem promote_items (d : Device) : (promote d).items = d.items := by
  unfold promote; split <;> simp
@[simp] theorem promote_backed (d : Device) : (promote d).backed = d.backed := by
  unfold promote; split <;> simp
@[simp] theorem promote_radio (d : Device) : (promote d).radio = d.radio := by
  unfold promote; split <;> simp
@[simp] theorem promote_ahead (d : Device) : (promote d).ahead = d.ahead := by
  unfold promote; split <;> simp
@[simp] theorem promote_draws (d : Device) : (promote d).draws = d.draws := by
  unfold promote; split <;> simp

@[simp] theorem dropOffer_pins (o : Offer) (d : Device) : (dropOffer o d).pins = d.pins := by
  simp only [dropOffer]; split <;> (try split) <;> simp
@[simp] theorem dropOffer_vehicle (o : Offer) (d : Device) : (dropOffer o d).vehicle = d.vehicle := by
  simp only [dropOffer]; split <;> (try split) <;> simp
@[simp] theorem dropOffer_tariff (o : Offer) (d : Device) : (dropOffer o d).tariff = d.tariff := by
  simp only [dropOffer]; split <;> (try split) <;> simp
@[simp] theorem dropOffer_meter (o : Offer) (d : Device) : (dropOffer o d).meter = d.meter := by
  simp only [dropOffer]; split <;> (try split) <;> simp
@[simp] theorem dropOffer_store (o : Offer) (d : Device) : (dropOffer o d).store = d.store := by
  simp only [dropOffer]; split <;> (try split) <;> simp
@[simp] theorem dropOffer_channel (o : Offer) (d : Device) : (dropOffer o d).channel = d.channel := by
  simp only [dropOffer]; split <;> (try split) <;> simp
@[simp] theorem dropOffer_emergency (o : Offer) (d : Device) : (dropOffer o d).emergency = d.emergency := by
  simp only [dropOffer]; split <;> (try split) <;> simp
@[simp] theorem dropOffer_sign (o : Offer) (d : Device) : (dropOffer o d).sign = d.sign := by
  simp only [dropOffer]; split <;> (try split) <;> simp
@[simp] theorem dropOffer_items (o : Offer) (d : Device) : (dropOffer o d).items = d.items := by
  simp only [dropOffer]; split <;> (try split) <;> simp
@[simp] theorem dropOffer_backed (o : Offer) (d : Device) : (dropOffer o d).backed = d.backed := by
  simp only [dropOffer]; split <;> (try split) <;> simp
@[simp] theorem dropOffer_radio (o : Offer) (d : Device) : (dropOffer o d).radio = d.radio := by
  simp only [dropOffer]; split <;> (try split) <;> simp
@[simp] theorem dropOffer_ahead (o : Offer) (d : Device) : (dropOffer o d).ahead = d.ahead := by
  simp only [dropOffer]; split <;> (try split) <;> simp
@[simp] theorem dropOffer_draws (o : Offer) (d : Device) : (dropOffer o d).draws = d.draws := by
  simp only [dropOffer]; split <;> (try split) <;> simp

@[simp] theorem removeOffer_pins (r : RemovalReason) (b : Bool) (o : Offer) (d : Device) : (removeOffer r b o d).pins = d.pins := by
  simp [removeOffer]
@[simp] theorem removeOffer_vehicle (r : RemovalReason) (b : Bool) (o : Offer) (d : Device) : (removeOffer r b o d).vehicle = d.vehicle := by
  simp [removeOffer]
@[simp] theorem removeOffer_tariff (r : RemovalReason) (b : Bool) (o : Offer) (d : Device) : (removeOffer r b o d).tariff = d.tariff := by
  simp [removeOffer]
@[simp] theorem removeOffer_meter (r : RemovalReason) (b : Bool) (o : Offer) (d : Device) : (removeOffer r b o d).meter = d.meter := by
  simp [removeOffer]
@[simp] theorem removeOffer_store (r : RemovalReason) (b : Bool) (o : Offer) (d : Device) : (removeOffer r b o d).store = d.store := by
  simp [removeOffer]
@[simp] theorem removeOffer_channel (r : RemovalReason) (b : Bool) (o : Offer) (d : Device) : (removeOffer r b o d).channel = d.channel := by
  simp [removeOffer]
@[simp] theorem removeOffer_emergency (r : RemovalReason) (b : Bool) (o : Offer) (d : Device) : (removeOffer r b o d).emergency = d.emergency := by
  simp [removeOffer]
@[simp] theorem removeOffer_sign (r : RemovalReason) (b : Bool) (o : Offer) (d : Device) : (removeOffer r b o d).sign = d.sign := by
  simp [removeOffer]
@[simp] theorem removeOffer_items (r : RemovalReason) (b : Bool) (o : Offer) (d : Device) : (removeOffer r b o d).items = d.items := by
  simp [removeOffer]
@[simp] theorem removeOffer_backed (r : RemovalReason) (b : Bool) (o : Offer) (d : Device) : (removeOffer r b o d).backed = d.backed := by
  simp [removeOffer]
@[simp] theorem removeOffer_radio (r : RemovalReason) (b : Bool) (o : Offer) (d : Device) : (removeOffer r b o d).radio = d.radio := by
  simp [removeOffer]
@[simp] theorem removeOffer_ahead (r : RemovalReason) (b : Bool) (o : Offer) (d : Device) : (removeOffer r b o d).ahead = d.ahead := by
  simp [removeOffer]
@[simp] theorem removeOffer_draws (r : RemovalReason) (b : Bool) (o : Offer) (d : Device) : (removeOffer r b o d).draws = d.draws := by
  simp [removeOffer]

@[simp] theorem removeOffers_pins (r : RemovalReason) (b : Bool) (p : Offer → Bool) (d : Device) :
    (removeOffers r b p d).pins = d.pins := by
  unfold removeOffers; rw [foldl_keeps (fun x o => removeOffer r b o x) (fun x => x.pins) (by simp)]
@[simp] theorem removeOffers_vehicle (r : RemovalReason) (b : Bool) (p : Offer → Bool) (d : Device) :
    (removeOffers r b p d).vehicle = d.vehicle := by
  unfold removeOffers; rw [foldl_keeps (fun x o => removeOffer r b o x) (fun x => x.vehicle) (by simp)]
@[simp] theorem removeOffers_tariff (r : RemovalReason) (b : Bool) (p : Offer → Bool) (d : Device) :
    (removeOffers r b p d).tariff = d.tariff := by
  unfold removeOffers; rw [foldl_keeps (fun x o => removeOffer r b o x) (fun x => x.tariff) (by simp)]
@[simp] theorem removeOffers_meter (r : RemovalReason) (b : Bool) (p : Offer → Bool) (d : Device) :
    (removeOffers r b p d).meter = d.meter := by
  unfold removeOffers; rw [foldl_keeps (fun x o => removeOffer r b o x) (fun x => x.meter) (by simp)]
@[simp] theorem removeOffers_store (r : RemovalReason) (b : Bool) (p : Offer → Bool) (d : Device) :
    (removeOffers r b p d).store = d.store := by
  unfold removeOffers; rw [foldl_keeps (fun x o => removeOffer r b o x) (fun x => x.store) (by simp)]
@[simp] theorem removeOffers_channel (r : RemovalReason) (b : Bool) (p : Offer → Bool) (d : Device) :
    (removeOffers r b p d).channel = d.channel := by
  unfold removeOffers; rw [foldl_keeps (fun x o => removeOffer r b o x) (fun x => x.channel) (by simp)]
@[simp] theorem removeOffers_emergency (r : RemovalReason) (b : Bool) (p : Offer → Bool) (d : Device) :
    (removeOffers r b p d).emergency = d.emergency := by
  unfold removeOffers; rw [foldl_keeps (fun x o => removeOffer r b o x) (fun x => x.emergency) (by simp)]
@[simp] theorem removeOffers_sign (r : RemovalReason) (b : Bool) (p : Offer → Bool) (d : Device) :
    (removeOffers r b p d).sign = d.sign := by
  unfold removeOffers; rw [foldl_keeps (fun x o => removeOffer r b o x) (fun x => x.sign) (by simp)]
@[simp] theorem removeOffers_items (r : RemovalReason) (b : Bool) (p : Offer → Bool) (d : Device) :
    (removeOffers r b p d).items = d.items := by
  unfold removeOffers; rw [foldl_keeps (fun x o => removeOffer r b o x) (fun x => x.items) (by simp)]
@[simp] theorem removeOffers_backed (r : RemovalReason) (b : Bool) (p : Offer → Bool) (d : Device) :
    (removeOffers r b p d).backed = d.backed := by
  unfold removeOffers; rw [foldl_keeps (fun x o => removeOffer r b o x) (fun x => x.backed) (by simp)]
@[simp] theorem removeOffers_radio (r : RemovalReason) (b : Bool) (p : Offer → Bool) (d : Device) :
    (removeOffers r b p d).radio = d.radio := by
  unfold removeOffers; rw [foldl_keeps (fun x o => removeOffer r b o x) (fun x => x.radio) (by simp)]
@[simp] theorem removeOffers_ahead (r : RemovalReason) (b : Bool) (p : Offer → Bool) (d : Device) :
    (removeOffers r b p d).ahead = d.ahead := by
  unfold removeOffers; rw [foldl_keeps (fun x o => removeOffer r b o x) (fun x => x.ahead) (by simp)]
@[simp] theorem removeOffers_draws (r : RemovalReason) (b : Bool) (p : Offer → Bool) (d : Device) :
    (removeOffers r b p d).draws = d.draws := by
  unfold removeOffers; rw [foldl_keeps (fun x o => removeOffer r b o x) (fun x => x.draws) (by simp)]

@[simp] theorem releaseBooking_pins (c : ZoneCause) (b : Bool) (d : Device) : (releaseBooking c b d).pins = d.pins := by
  unfold releaseBooking; split <;> simp
@[simp] theorem releaseBooking_vehicle (c : ZoneCause) (b : Bool) (d : Device) : (releaseBooking c b d).vehicle = d.vehicle := by
  unfold releaseBooking; split <;> simp
@[simp] theorem releaseBooking_tariff (c : ZoneCause) (b : Bool) (d : Device) : (releaseBooking c b d).tariff = d.tariff := by
  unfold releaseBooking; split <;> simp
@[simp] theorem releaseBooking_meter (c : ZoneCause) (b : Bool) (d : Device) : (releaseBooking c b d).meter = d.meter := by
  unfold releaseBooking; split <;> simp
@[simp] theorem releaseBooking_store (c : ZoneCause) (b : Bool) (d : Device) : (releaseBooking c b d).store = d.store := by
  unfold releaseBooking; split <;> simp
@[simp] theorem releaseBooking_channel (c : ZoneCause) (b : Bool) (d : Device) : (releaseBooking c b d).channel = d.channel := by
  unfold releaseBooking; split <;> simp
@[simp] theorem releaseBooking_mail (c : ZoneCause) (b : Bool) (d : Device) : (releaseBooking c b d).mail = d.mail := by
  unfold releaseBooking; split <;> simp
@[simp] theorem releaseBooking_emergency (c : ZoneCause) (b : Bool) (d : Device) : (releaseBooking c b d).emergency = d.emergency := by
  unfold releaseBooking; split <;> simp
@[simp] theorem releaseBooking_sign (c : ZoneCause) (b : Bool) (d : Device) : (releaseBooking c b d).sign = d.sign := by
  unfold releaseBooking; split <;> simp
@[simp] theorem releaseBooking_items (c : ZoneCause) (b : Bool) (d : Device) : (releaseBooking c b d).items = d.items := by
  unfold releaseBooking; split <;> simp
@[simp] theorem releaseBooking_backed (c : ZoneCause) (b : Bool) (d : Device) : (releaseBooking c b d).backed = d.backed := by
  unfold releaseBooking; split <;> simp
@[simp] theorem releaseBooking_radio (c : ZoneCause) (b : Bool) (d : Device) : (releaseBooking c b d).radio = d.radio := by
  unfold releaseBooking; split <;> simp
@[simp] theorem releaseBooking_ahead (c : ZoneCause) (b : Bool) (d : Device) : (releaseBooking c b d).ahead = d.ahead := by
  unfold releaseBooking; split <;> simp
@[simp] theorem releaseBooking_draws (c : ZoneCause) (b : Bool) (d : Device) : (releaseBooking c b d).draws = d.draws := by
  unfold releaseBooking; split <;> simp

@[simp] theorem hireTable_pins (d : Device) : (hireTable d).pins = d.pins := by
  simp [hireTable]
@[simp] theorem hireTable_vehicle (d : Device) : (hireTable d).vehicle = d.vehicle := by
  simp [hireTable]
@[simp] theorem hireTable_tariff (d : Device) : (hireTable d).tariff = d.tariff := by
  simp [hireTable]
@[simp] theorem hireTable_meter (d : Device) : (hireTable d).meter = d.meter := by
  simp [hireTable]
@[simp] theorem hireTable_store (d : Device) : (hireTable d).store = d.store := by
  simp [hireTable]
@[simp] theorem hireTable_channel (d : Device) : (hireTable d).channel = d.channel := by
  simp [hireTable]
@[simp] theorem hireTable_emergency (d : Device) : (hireTable d).emergency = d.emergency := by
  simp [hireTable]
@[simp] theorem hireTable_sign (d : Device) : (hireTable d).sign = d.sign := by
  simp [hireTable]
@[simp] theorem hireTable_items (d : Device) : (hireTable d).items = d.items := by
  simp [hireTable]
@[simp] theorem hireTable_backed (d : Device) : (hireTable d).backed = d.backed := by
  simp [hireTable]
@[simp] theorem hireTable_radio (d : Device) : (hireTable d).radio = d.radio := by
  simp [hireTable]
@[simp] theorem hireTable_ahead (d : Device) : (hireTable d).ahead = d.ahead := by
  simp [hireTable]
@[simp] theorem hireTable_draws (d : Device) : (hireTable d).draws = d.draws := by
  simp [hireTable]

@[simp] theorem closeTable_pins (d : Device) : (closeTable d).pins = d.pins := by
  simp [closeTable]
@[simp] theorem closeTable_vehicle (d : Device) : (closeTable d).vehicle = d.vehicle := by
  simp [closeTable]
@[simp] theorem closeTable_tariff (d : Device) : (closeTable d).tariff = d.tariff := by
  simp [closeTable]
@[simp] theorem closeTable_meter (d : Device) : (closeTable d).meter = d.meter := by
  simp [closeTable]
@[simp] theorem closeTable_store (d : Device) : (closeTable d).store = d.store := by
  simp [closeTable]
@[simp] theorem closeTable_channel (d : Device) : (closeTable d).channel = d.channel := by
  simp [closeTable]
@[simp] theorem closeTable_emergency (d : Device) : (closeTable d).emergency = d.emergency := by
  simp [closeTable]
@[simp] theorem closeTable_sign (d : Device) : (closeTable d).sign = d.sign := by
  simp [closeTable]
@[simp] theorem closeTable_items (d : Device) : (closeTable d).items = d.items := by
  simp [closeTable]
@[simp] theorem closeTable_backed (d : Device) : (closeTable d).backed = d.backed := by
  simp [closeTable]
@[simp] theorem closeTable_radio (d : Device) : (closeTable d).radio = d.radio := by
  simp [closeTable]
@[simp] theorem closeTable_ahead (d : Device) : (closeTable d).ahead = d.ahead := by
  simp [closeTable]
@[simp] theorem closeTable_draws (d : Device) : (closeTable d).draws = d.draws := by
  simp [closeTable]

@[simp] theorem forfeitTable_pins (d : Device) : (forfeitTable d).pins = d.pins := by
  simp [forfeitTable]
@[simp] theorem forfeitTable_vehicle (d : Device) : (forfeitTable d).vehicle = d.vehicle := by
  simp [forfeitTable]
@[simp] theorem forfeitTable_tariff (d : Device) : (forfeitTable d).tariff = d.tariff := by
  simp [forfeitTable]
@[simp] theorem forfeitTable_meter (d : Device) : (forfeitTable d).meter = d.meter := by
  simp [forfeitTable]
@[simp] theorem forfeitTable_store (d : Device) : (forfeitTable d).store = d.store := by
  simp [forfeitTable]
@[simp] theorem forfeitTable_channel (d : Device) : (forfeitTable d).channel = d.channel := by
  simp [forfeitTable]
@[simp] theorem forfeitTable_emergency (d : Device) : (forfeitTable d).emergency = d.emergency := by
  simp [forfeitTable]
@[simp] theorem forfeitTable_sign (d : Device) : (forfeitTable d).sign = d.sign := by
  simp [forfeitTable]
@[simp] theorem forfeitTable_items (d : Device) : (forfeitTable d).items = d.items := by
  simp [forfeitTable]
@[simp] theorem forfeitTable_backed (d : Device) : (forfeitTable d).backed = d.backed := by
  simp [forfeitTable]
@[simp] theorem forfeitTable_radio (d : Device) : (forfeitTable d).radio = d.radio := by
  simp [forfeitTable]
@[simp] theorem forfeitTable_ahead (d : Device) : (forfeitTable d).ahead = d.ahead := by
  simp [forfeitTable]
@[simp] theorem forfeitTable_draws (d : Device) : (forfeitTable d).draws = d.draws := by
  simp [forfeitTable]

@[simp] theorem barTable_pins (d : Device) : (barTable d).pins = d.pins := by
  simp [barTable]
@[simp] theorem barTable_vehicle (d : Device) : (barTable d).vehicle = d.vehicle := by
  simp [barTable]
@[simp] theorem barTable_tariff (d : Device) : (barTable d).tariff = d.tariff := by
  simp [barTable]
@[simp] theorem barTable_meter (d : Device) : (barTable d).meter = d.meter := by
  simp [barTable]
@[simp] theorem barTable_store (d : Device) : (barTable d).store = d.store := by
  simp [barTable]
@[simp] theorem barTable_channel (d : Device) : (barTable d).channel = d.channel := by
  simp [barTable]
@[simp] theorem barTable_emergency (d : Device) : (barTable d).emergency = d.emergency := by
  simp [barTable]
@[simp] theorem barTable_sign (d : Device) : (barTable d).sign = d.sign := by
  simp [barTable]
@[simp] theorem barTable_items (d : Device) : (barTable d).items = d.items := by
  simp [barTable]
@[simp] theorem barTable_backed (d : Device) : (barTable d).backed = d.backed := by
  simp [barTable]
@[simp] theorem barTable_radio (d : Device) : (barTable d).radio = d.radio := by
  simp [barTable]
@[simp] theorem barTable_ahead (d : Device) : (barTable d).ahead = d.ahead := by
  simp [barTable]
@[simp] theorem barTable_draws (d : Device) : (barTable d).draws = d.draws := by
  simp [barTable]

@[simp] theorem raiseTable_pins (d : Device) : (raiseTable d).pins = d.pins := by
  simp [raiseTable]
@[simp] theorem raiseTable_vehicle (d : Device) : (raiseTable d).vehicle = d.vehicle := by
  simp [raiseTable]
@[simp] theorem raiseTable_tariff (d : Device) : (raiseTable d).tariff = d.tariff := by
  simp [raiseTable]
@[simp] theorem raiseTable_meter (d : Device) : (raiseTable d).meter = d.meter := by
  simp [raiseTable]
@[simp] theorem raiseTable_store (d : Device) : (raiseTable d).store = d.store := by
  simp [raiseTable]
@[simp] theorem raiseTable_channel (d : Device) : (raiseTable d).channel = d.channel := by
  simp [raiseTable]
@[simp] theorem raiseTable_emergency (d : Device) : (raiseTable d).emergency = d.emergency := by
  simp [raiseTable]
@[simp] theorem raiseTable_sign (d : Device) : (raiseTable d).sign = d.sign := by
  simp [raiseTable]
@[simp] theorem raiseTable_items (d : Device) : (raiseTable d).items = d.items := by
  simp [raiseTable]
@[simp] theorem raiseTable_backed (d : Device) : (raiseTable d).backed = d.backed := by
  simp [raiseTable]
@[simp] theorem raiseTable_radio (d : Device) : (raiseTable d).radio = d.radio := by
  simp [raiseTable]
@[simp] theorem raiseTable_ahead (d : Device) : (raiseTable d).ahead = d.ahead := by
  simp [raiseTable]
@[simp] theorem raiseTable_draws (d : Device) : (raiseTable d).draws = d.draws := by
  simp [raiseTable]

@[simp] theorem completeJob_pins (j : Option Nat) (d : Device) : (completeJob j d).pins = d.pins := by
  unfold completeJob; split <;> simp
@[simp] theorem completeJob_vehicle (j : Option Nat) (d : Device) : (completeJob j d).vehicle = d.vehicle := by
  unfold completeJob; split <;> simp
@[simp] theorem completeJob_tariff (j : Option Nat) (d : Device) : (completeJob j d).tariff = d.tariff := by
  unfold completeJob; split <;> simp
@[simp] theorem completeJob_meter (j : Option Nat) (d : Device) : (completeJob j d).meter = d.meter := by
  unfold completeJob; split <;> simp
@[simp] theorem completeJob_store (j : Option Nat) (d : Device) : (completeJob j d).store = d.store := by
  unfold completeJob; split <;> simp
@[simp] theorem completeJob_channel (j : Option Nat) (d : Device) : (completeJob j d).channel = d.channel := by
  unfold completeJob; split <;> simp
@[simp] theorem completeJob_emergency (j : Option Nat) (d : Device) : (completeJob j d).emergency = d.emergency := by
  unfold completeJob; split <;> simp
@[simp] theorem completeJob_sign (j : Option Nat) (d : Device) : (completeJob j d).sign = d.sign := by
  unfold completeJob; split <;> simp
@[simp] theorem completeJob_items (j : Option Nat) (d : Device) : (completeJob j d).items = d.items := by
  unfold completeJob; split <;> simp
@[simp] theorem completeJob_backed (j : Option Nat) (d : Device) : (completeJob j d).backed = d.backed := by
  unfold completeJob; split <;> simp
@[simp] theorem completeJob_radio (j : Option Nat) (d : Device) : (completeJob j d).radio = d.radio := by
  unfold completeJob; split <;> simp
@[simp] theorem completeJob_ahead (j : Option Nat) (d : Device) : (completeJob j d).ahead = d.ahead := by
  unfold completeJob; split <;> simp
@[simp] theorem completeJob_draws (j : Option Nat) (d : Device) : (completeJob j d).draws = d.draws := by
  unfold completeJob; split <;> simp

@[simp] theorem windowsTick_pins (d : Device) : (windowsTick d).pins = d.pins := by
  simp [windowsTick]
@[simp] theorem windowsTick_vehicle (d : Device) : (windowsTick d).vehicle = d.vehicle := by
  simp [windowsTick]
@[simp] theorem windowsTick_tariff (d : Device) : (windowsTick d).tariff = d.tariff := by
  simp [windowsTick]
@[simp] theorem windowsTick_meter (d : Device) : (windowsTick d).meter = d.meter := by
  simp [windowsTick]
@[simp] theorem windowsTick_store (d : Device) : (windowsTick d).store = d.store := by
  simp [windowsTick]
@[simp] theorem windowsTick_channel (d : Device) : (windowsTick d).channel = d.channel := by
  simp [windowsTick]
@[simp] theorem windowsTick_emergency (d : Device) : (windowsTick d).emergency = d.emergency := by
  simp [windowsTick]
@[simp] theorem windowsTick_sign (d : Device) : (windowsTick d).sign = d.sign := by
  simp [windowsTick]
@[simp] theorem windowsTick_items (d : Device) : (windowsTick d).items = d.items := by
  simp [windowsTick]
@[simp] theorem windowsTick_backed (d : Device) : (windowsTick d).backed = d.backed := by
  simp [windowsTick]
@[simp] theorem windowsTick_radio (d : Device) : (windowsTick d).radio = d.radio := by
  simp [windowsTick]
@[simp] theorem windowsTick_ahead (d : Device) : (windowsTick d).ahead = d.ahead := by
  simp [windowsTick]
@[simp] theorem windowsTick_draws (d : Device) : (windowsTick d).draws = d.draws := by
  simp [windowsTick]

@[simp] theorem answerEnds_pins (d : Device) : (answerEnds d).pins = d.pins := by
  simp [answerEnds]
@[simp] theorem answerEnds_vehicle (d : Device) : (answerEnds d).vehicle = d.vehicle := by
  simp [answerEnds]
@[simp] theorem answerEnds_tariff (d : Device) : (answerEnds d).tariff = d.tariff := by
  simp [answerEnds]
@[simp] theorem answerEnds_meter (d : Device) : (answerEnds d).meter = d.meter := by
  simp [answerEnds]
@[simp] theorem answerEnds_store (d : Device) : (answerEnds d).store = d.store := by
  simp [answerEnds]
@[simp] theorem answerEnds_channel (d : Device) : (answerEnds d).channel = d.channel := by
  simp [answerEnds]
@[simp] theorem answerEnds_mail (d : Device) : (answerEnds d).mail = d.mail := by
  simp [answerEnds]
@[simp] theorem answerEnds_emergency (d : Device) : (answerEnds d).emergency = d.emergency := by
  simp [answerEnds]
@[simp] theorem answerEnds_sign (d : Device) : (answerEnds d).sign = d.sign := by
  simp [answerEnds]
@[simp] theorem answerEnds_items (d : Device) : (answerEnds d).items = d.items := by
  simp [answerEnds]
@[simp] theorem answerEnds_backed (d : Device) : (answerEnds d).backed = d.backed := by
  simp [answerEnds]
@[simp] theorem answerEnds_radio (d : Device) : (answerEnds d).radio = d.radio := by
  simp [answerEnds]
@[simp] theorem answerEnds_ahead (d : Device) : (answerEnds d).ahead = d.ahead := by
  simp [answerEnds]
@[simp] theorem answerEnds_draws (d : Device) : (answerEnds d).draws = d.draws := by
  simp [answerEnds]

@[simp] theorem answerTick_pins (d : Device) : (answerTick d).pins = d.pins := by
  unfold answerTick; split <;> (try split) <;> simp
@[simp] theorem answerTick_vehicle (d : Device) : (answerTick d).vehicle = d.vehicle := by
  unfold answerTick; split <;> (try split) <;> simp
@[simp] theorem answerTick_tariff (d : Device) : (answerTick d).tariff = d.tariff := by
  unfold answerTick; split <;> (try split) <;> simp
@[simp] theorem answerTick_meter (d : Device) : (answerTick d).meter = d.meter := by
  unfold answerTick; split <;> (try split) <;> simp
@[simp] theorem answerTick_store (d : Device) : (answerTick d).store = d.store := by
  unfold answerTick; split <;> (try split) <;> simp
@[simp] theorem answerTick_channel (d : Device) : (answerTick d).channel = d.channel := by
  unfold answerTick; split <;> (try split) <;> simp
@[simp] theorem answerTick_mail (d : Device) : (answerTick d).mail = d.mail := by
  unfold answerTick; split <;> (try split) <;> simp
@[simp] theorem answerTick_emergency (d : Device) : (answerTick d).emergency = d.emergency := by
  unfold answerTick; split <;> (try split) <;> simp
@[simp] theorem answerTick_sign (d : Device) : (answerTick d).sign = d.sign := by
  unfold answerTick; split <;> (try split) <;> simp
@[simp] theorem answerTick_items (d : Device) : (answerTick d).items = d.items := by
  unfold answerTick; split <;> (try split) <;> simp
@[simp] theorem answerTick_backed (d : Device) : (answerTick d).backed = d.backed := by
  unfold answerTick; split <;> (try split) <;> simp
@[simp] theorem answerTick_radio (d : Device) : (answerTick d).radio = d.radio := by
  unfold answerTick; split <;> (try split) <;> simp
@[simp] theorem answerTick_ahead (d : Device) : (answerTick d).ahead = d.ahead := by
  unfold answerTick; split <;> (try split) <;> simp
@[simp] theorem answerTick_draws (d : Device) : (answerTick d).draws = d.draws := by
  unfold answerTick; split <;> (try split) <;> simp

@[simp] theorem autoDecline_pins (j : Nat) (r : DeclineReason) (d : Device) : (autoDecline j r d).2.pins = d.pins := by
  unfold autoDecline; have h := ask_pins (.decline j r) d; split <;> simp_all
@[simp] theorem autoDecline_vehicle (j : Nat) (r : DeclineReason) (d : Device) : (autoDecline j r d).2.vehicle = d.vehicle := by
  unfold autoDecline; have h := ask_vehicle (.decline j r) d; split <;> simp_all
@[simp] theorem autoDecline_tariff (j : Nat) (r : DeclineReason) (d : Device) : (autoDecline j r d).2.tariff = d.tariff := by
  unfold autoDecline; have h := ask_tariff (.decline j r) d; split <;> simp_all
@[simp] theorem autoDecline_meter (j : Nat) (r : DeclineReason) (d : Device) : (autoDecline j r d).2.meter = d.meter := by
  unfold autoDecline; have h := ask_meter (.decline j r) d; split <;> simp_all
@[simp] theorem autoDecline_store (j : Nat) (r : DeclineReason) (d : Device) : (autoDecline j r d).2.store = d.store := by
  unfold autoDecline; have h := ask_store (.decline j r) d; split <;> simp_all
@[simp] theorem autoDecline_channel (j : Nat) (r : DeclineReason) (d : Device) : (autoDecline j r d).2.channel = d.channel := by
  unfold autoDecline; have h := ask_channel (.decline j r) d; split <;> simp_all
@[simp] theorem autoDecline_offers (j : Nat) (r : DeclineReason) (d : Device) : (autoDecline j r d).2.offers = d.offers := by
  unfold autoDecline; have h := ask_offers (.decline j r) d; split <;> simp_all
@[simp] theorem autoDecline_mail (j : Nat) (r : DeclineReason) (d : Device) : (autoDecline j r d).2.mail = d.mail := by
  unfold autoDecline; have h := ask_mail (.decline j r) d; split <;> simp_all
@[simp] theorem autoDecline_emergency (j : Nat) (r : DeclineReason) (d : Device) : (autoDecline j r d).2.emergency = d.emergency := by
  unfold autoDecline; have h := ask_emergency (.decline j r) d; split <;> simp_all
@[simp] theorem autoDecline_sign (j : Nat) (r : DeclineReason) (d : Device) : (autoDecline j r d).2.sign = d.sign := by
  unfold autoDecline; have h := ask_sign (.decline j r) d; split <;> simp_all
@[simp] theorem autoDecline_link (j : Nat) (r : DeclineReason) (d : Device) : (autoDecline j r d).2.link = d.link := by
  unfold autoDecline; have h := ask_link (.decline j r) d; split <;> simp_all
@[simp] theorem autoDecline_items (j : Nat) (r : DeclineReason) (d : Device) : (autoDecline j r d).2.items = d.items := by
  unfold autoDecline; have h := ask_items (.decline j r) d; split <;> simp_all
@[simp] theorem autoDecline_backed (j : Nat) (r : DeclineReason) (d : Device) : (autoDecline j r d).2.backed = d.backed := by
  unfold autoDecline; have h := ask_backed (.decline j r) d; split <;> simp_all
@[simp] theorem autoDecline_radio (j : Nat) (r : DeclineReason) (d : Device) : (autoDecline j r d).2.radio = d.radio := by
  unfold autoDecline; have h := ask_radio (.decline j r) d; split <;> simp_all
@[simp] theorem autoDecline_ahead (j : Nat) (r : DeclineReason) (d : Device) : (autoDecline j r d).2.ahead = d.ahead := by
  unfold autoDecline; have h := ask_ahead (.decline j r) d; split <;> simp_all
@[simp] theorem autoDecline_draws (j : Nat) (r : DeclineReason) (d : Device) : (autoDecline j r d).2.draws = d.draws := by
  unfold autoDecline; have h := ask_draws (.decline j r) d; split <;> simp_all

@[simp] theorem answerNotHeld_pins (j : Nat) (d : Device) : (answerNotHeld j d).pins = d.pins := by
  simp [answerNotHeld]
@[simp] theorem answerNotHeld_vehicle (j : Nat) (d : Device) : (answerNotHeld j d).vehicle = d.vehicle := by
  simp [answerNotHeld]
@[simp] theorem answerNotHeld_tariff (j : Nat) (d : Device) : (answerNotHeld j d).tariff = d.tariff := by
  simp [answerNotHeld]
@[simp] theorem answerNotHeld_meter (j : Nat) (d : Device) : (answerNotHeld j d).meter = d.meter := by
  simp [answerNotHeld]
@[simp] theorem answerNotHeld_store (j : Nat) (d : Device) : (answerNotHeld j d).store = d.store := by
  simp [answerNotHeld]
@[simp] theorem answerNotHeld_channel (j : Nat) (d : Device) : (answerNotHeld j d).channel = d.channel := by
  simp [answerNotHeld]
@[simp] theorem answerNotHeld_offers (j : Nat) (d : Device) : (answerNotHeld j d).offers = d.offers := by
  simp [answerNotHeld]
@[simp] theorem answerNotHeld_mail (j : Nat) (d : Device) : (answerNotHeld j d).mail = d.mail := by
  simp [answerNotHeld]
@[simp] theorem answerNotHeld_emergency (j : Nat) (d : Device) : (answerNotHeld j d).emergency = d.emergency := by
  simp [answerNotHeld]
@[simp] theorem answerNotHeld_sign (j : Nat) (d : Device) : (answerNotHeld j d).sign = d.sign := by
  simp [answerNotHeld]
@[simp] theorem answerNotHeld_items (j : Nat) (d : Device) : (answerNotHeld j d).items = d.items := by
  simp [answerNotHeld]
@[simp] theorem answerNotHeld_backed (j : Nat) (d : Device) : (answerNotHeld j d).backed = d.backed := by
  simp [answerNotHeld]
@[simp] theorem answerNotHeld_radio (j : Nat) (d : Device) : (answerNotHeld j d).radio = d.radio := by
  simp [answerNotHeld]
@[simp] theorem answerNotHeld_ahead (j : Nat) (d : Device) : (answerNotHeld j d).ahead = d.ahead := by
  simp [answerNotHeld]
@[simp] theorem answerNotHeld_draws (j : Nat) (d : Device) : (answerNotHeld j d).draws = d.draws := by
  simp [answerNotHeld]

@[simp] theorem giveRole_pins (o : Offer) (d : Device) : (giveRole o d).pins = d.pins := by
  unfold giveRole; split <;> (try split) <;> simp
@[simp] theorem giveRole_vehicle (o : Offer) (d : Device) : (giveRole o d).vehicle = d.vehicle := by
  unfold giveRole; split <;> (try split) <;> simp
@[simp] theorem giveRole_tariff (o : Offer) (d : Device) : (giveRole o d).tariff = d.tariff := by
  unfold giveRole; split <;> (try split) <;> simp
@[simp] theorem giveRole_meter (o : Offer) (d : Device) : (giveRole o d).meter = d.meter := by
  unfold giveRole; split <;> (try split) <;> simp
@[simp] theorem giveRole_store (o : Offer) (d : Device) : (giveRole o d).store = d.store := by
  unfold giveRole; split <;> (try split) <;> simp
@[simp] theorem giveRole_channel (o : Offer) (d : Device) : (giveRole o d).channel = d.channel := by
  unfold giveRole; split <;> (try split) <;> simp
@[simp] theorem giveRole_emergency (o : Offer) (d : Device) : (giveRole o d).emergency = d.emergency := by
  unfold giveRole; split <;> (try split) <;> simp
@[simp] theorem giveRole_sign (o : Offer) (d : Device) : (giveRole o d).sign = d.sign := by
  unfold giveRole; split <;> (try split) <;> simp
@[simp] theorem giveRole_items (o : Offer) (d : Device) : (giveRole o d).items = d.items := by
  unfold giveRole; split <;> (try split) <;> simp
@[simp] theorem giveRole_backed (o : Offer) (d : Device) : (giveRole o d).backed = d.backed := by
  unfold giveRole; split <;> (try split) <;> simp
@[simp] theorem giveRole_radio (o : Offer) (d : Device) : (giveRole o d).radio = d.radio := by
  unfold giveRole; split <;> (try split) <;> simp
@[simp] theorem giveRole_ahead (o : Offer) (d : Device) : (giveRole o d).ahead = d.ahead := by
  unfold giveRole; split <;> (try split) <;> simp
@[simp] theorem giveRole_draws (o : Offer) (d : Device) : (giveRole o d).draws = d.draws := by
  unfold giveRole; split <;> (try split) <;> simp

@[simp] theorem takeAward_pins (j : Nat) (d : Device) : (takeAward j d).pins = d.pins := by
  unfold takeAward; split <;> (try split) <;> (try split) <;> (try split) <;> simp
@[simp] theorem takeAward_vehicle (j : Nat) (d : Device) : (takeAward j d).vehicle = d.vehicle := by
  unfold takeAward; split <;> (try split) <;> (try split) <;> (try split) <;> simp
@[simp] theorem takeAward_tariff (j : Nat) (d : Device) : (takeAward j d).tariff = d.tariff := by
  unfold takeAward; split <;> (try split) <;> (try split) <;> (try split) <;> simp
@[simp] theorem takeAward_meter (j : Nat) (d : Device) : (takeAward j d).meter = d.meter := by
  unfold takeAward; split <;> (try split) <;> (try split) <;> (try split) <;> simp
@[simp] theorem takeAward_store (j : Nat) (d : Device) : (takeAward j d).store = d.store := by
  unfold takeAward; split <;> (try split) <;> (try split) <;> (try split) <;> simp
@[simp] theorem takeAward_channel (j : Nat) (d : Device) : (takeAward j d).channel = d.channel := by
  unfold takeAward; split <;> (try split) <;> (try split) <;> (try split) <;> simp
@[simp] theorem takeAward_emergency (j : Nat) (d : Device) : (takeAward j d).emergency = d.emergency := by
  unfold takeAward; split <;> (try split) <;> (try split) <;> (try split) <;> simp
@[simp] theorem takeAward_sign (j : Nat) (d : Device) : (takeAward j d).sign = d.sign := by
  unfold takeAward; split <;> (try split) <;> (try split) <;> (try split) <;> simp
@[simp] theorem takeAward_items (j : Nat) (d : Device) : (takeAward j d).items = d.items := by
  unfold takeAward; split <;> (try split) <;> (try split) <;> (try split) <;> simp
@[simp] theorem takeAward_backed (j : Nat) (d : Device) : (takeAward j d).backed = d.backed := by
  unfold takeAward; split <;> (try split) <;> (try split) <;> (try split) <;> simp
@[simp] theorem takeAward_radio (j : Nat) (d : Device) : (takeAward j d).radio = d.radio := by
  unfold takeAward; split <;> (try split) <;> (try split) <;> (try split) <;> simp
@[simp] theorem takeAward_ahead (j : Nat) (d : Device) : (takeAward j d).ahead = d.ahead := by
  unfold takeAward; split <;> (try split) <;> (try split) <;> (try split) <;> simp
@[simp] theorem takeAward_draws (j : Nat) (d : Device) : (takeAward j d).draws = d.draws := by
  unfold takeAward; split <;> (try split) <;> (try split) <;> (try split) <;> simp

@[simp] theorem takeWithdraw_pins (j : Nat) (d : Device) : (takeWithdraw j d).pins = d.pins := by
  unfold takeWithdraw; split <;> (try split) <;> (try split) <;> simp
@[simp] theorem takeWithdraw_vehicle (j : Nat) (d : Device) : (takeWithdraw j d).vehicle = d.vehicle := by
  unfold takeWithdraw; split <;> (try split) <;> (try split) <;> simp
@[simp] theorem takeWithdraw_tariff (j : Nat) (d : Device) : (takeWithdraw j d).tariff = d.tariff := by
  unfold takeWithdraw; split <;> (try split) <;> (try split) <;> simp
@[simp] theorem takeWithdraw_meter (j : Nat) (d : Device) : (takeWithdraw j d).meter = d.meter := by
  unfold takeWithdraw; split <;> (try split) <;> (try split) <;> simp
@[simp] theorem takeWithdraw_store (j : Nat) (d : Device) : (takeWithdraw j d).store = d.store := by
  unfold takeWithdraw; split <;> (try split) <;> (try split) <;> simp
@[simp] theorem takeWithdraw_channel (j : Nat) (d : Device) : (takeWithdraw j d).channel = d.channel := by
  unfold takeWithdraw; split <;> (try split) <;> (try split) <;> simp
@[simp] theorem takeWithdraw_emergency (j : Nat) (d : Device) : (takeWithdraw j d).emergency = d.emergency := by
  unfold takeWithdraw; split <;> (try split) <;> (try split) <;> simp
@[simp] theorem takeWithdraw_sign (j : Nat) (d : Device) : (takeWithdraw j d).sign = d.sign := by
  unfold takeWithdraw; split <;> (try split) <;> (try split) <;> simp
@[simp] theorem takeWithdraw_items (j : Nat) (d : Device) : (takeWithdraw j d).items = d.items := by
  unfold takeWithdraw; split <;> (try split) <;> (try split) <;> simp
@[simp] theorem takeWithdraw_backed (j : Nat) (d : Device) : (takeWithdraw j d).backed = d.backed := by
  unfold takeWithdraw; split <;> (try split) <;> (try split) <;> simp
@[simp] theorem takeWithdraw_radio (j : Nat) (d : Device) : (takeWithdraw j d).radio = d.radio := by
  unfold takeWithdraw; split <;> (try split) <;> (try split) <;> simp
@[simp] theorem takeWithdraw_ahead (j : Nat) (d : Device) : (takeWithdraw j d).ahead = d.ahead := by
  unfold takeWithdraw; split <;> (try split) <;> (try split) <;> simp
@[simp] theorem takeWithdraw_draws (j : Nat) (d : Device) : (takeWithdraw j d).draws = d.draws := by
  unfold takeWithdraw; split <;> (try split) <;> (try split) <;> simp

@[simp] theorem flagJobCancelled_pins (d : Device) : (flagJobCancelled d).pins = d.pins := by
  simp [flagJobCancelled]
@[simp] theorem flagJobCancelled_vehicle (d : Device) : (flagJobCancelled d).vehicle = d.vehicle := by
  simp [flagJobCancelled]
@[simp] theorem flagJobCancelled_tariff (d : Device) : (flagJobCancelled d).tariff = d.tariff := by
  simp [flagJobCancelled]
@[simp] theorem flagJobCancelled_store (d : Device) : (flagJobCancelled d).store = d.store := by
  simp [flagJobCancelled]
@[simp] theorem flagJobCancelled_channel (d : Device) : (flagJobCancelled d).channel = d.channel := by
  simp [flagJobCancelled]
@[simp] theorem flagJobCancelled_uplink (d : Device) : (flagJobCancelled d).uplink = d.uplink := by
  simp [flagJobCancelled]
@[simp] theorem flagJobCancelled_offers (d : Device) : (flagJobCancelled d).offers = d.offers := by
  simp [flagJobCancelled]
@[simp] theorem flagJobCancelled_mail (d : Device) : (flagJobCancelled d).mail = d.mail := by
  simp [flagJobCancelled]
@[simp] theorem flagJobCancelled_emergency (d : Device) : (flagJobCancelled d).emergency = d.emergency := by
  simp [flagJobCancelled]
@[simp] theorem flagJobCancelled_sign (d : Device) : (flagJobCancelled d).sign = d.sign := by
  simp [flagJobCancelled]
@[simp] theorem flagJobCancelled_link (d : Device) : (flagJobCancelled d).link = d.link := by
  simp [flagJobCancelled]
@[simp] theorem flagJobCancelled_items (d : Device) : (flagJobCancelled d).items = d.items := by
  simp [flagJobCancelled]
@[simp] theorem flagJobCancelled_backed (d : Device) : (flagJobCancelled d).backed = d.backed := by
  simp [flagJobCancelled]
@[simp] theorem flagJobCancelled_radio (d : Device) : (flagJobCancelled d).radio = d.radio := by
  simp [flagJobCancelled]
@[simp] theorem flagJobCancelled_ahead (d : Device) : (flagJobCancelled d).ahead = d.ahead := by
  simp [flagJobCancelled]
@[simp] theorem flagJobCancelled_draws (d : Device) : (flagJobCancelled d).draws = d.draws := by
  simp [flagJobCancelled]

@[simp] theorem takeJobCancel_pins (j : Nat) (d : Device) : (takeJobCancel j d).pins = d.pins := by
  unfold takeJobCancel; split <;> (try split) <;> (try split) <;> simp
@[simp] theorem takeJobCancel_vehicle (j : Nat) (d : Device) : (takeJobCancel j d).vehicle = d.vehicle := by
  unfold takeJobCancel; split <;> (try split) <;> (try split) <;> simp
@[simp] theorem takeJobCancel_tariff (j : Nat) (d : Device) : (takeJobCancel j d).tariff = d.tariff := by
  unfold takeJobCancel; split <;> (try split) <;> (try split) <;> simp
@[simp] theorem takeJobCancel_store (j : Nat) (d : Device) : (takeJobCancel j d).store = d.store := by
  unfold takeJobCancel; split <;> (try split) <;> (try split) <;> simp
@[simp] theorem takeJobCancel_channel (j : Nat) (d : Device) : (takeJobCancel j d).channel = d.channel := by
  unfold takeJobCancel; split <;> (try split) <;> (try split) <;> simp
@[simp] theorem takeJobCancel_emergency (j : Nat) (d : Device) : (takeJobCancel j d).emergency = d.emergency := by
  unfold takeJobCancel; split <;> (try split) <;> (try split) <;> simp
@[simp] theorem takeJobCancel_sign (j : Nat) (d : Device) : (takeJobCancel j d).sign = d.sign := by
  unfold takeJobCancel; split <;> (try split) <;> (try split) <;> simp
@[simp] theorem takeJobCancel_items (j : Nat) (d : Device) : (takeJobCancel j d).items = d.items := by
  unfold takeJobCancel; split <;> (try split) <;> (try split) <;> simp
@[simp] theorem takeJobCancel_backed (j : Nat) (d : Device) : (takeJobCancel j d).backed = d.backed := by
  unfold takeJobCancel; split <;> (try split) <;> (try split) <;> simp
@[simp] theorem takeJobCancel_radio (j : Nat) (d : Device) : (takeJobCancel j d).radio = d.radio := by
  unfold takeJobCancel; split <;> (try split) <;> (try split) <;> simp
@[simp] theorem takeJobCancel_ahead (j : Nat) (d : Device) : (takeJobCancel j d).ahead = d.ahead := by
  unfold takeJobCancel; split <;> (try split) <;> (try split) <;> simp
@[simp] theorem takeJobCancel_draws (j : Nat) (d : Device) : (takeJobCancel j d).draws = d.draws := by
  unfold takeJobCancel; split <;> (try split) <;> (try split) <;> simp

@[simp] theorem appendOffer_pins (o : Offer) (d : Device) : (appendOffer o d).pins = d.pins := by
  simp [appendOffer]
@[simp] theorem appendOffer_vehicle (o : Offer) (d : Device) : (appendOffer o d).vehicle = d.vehicle := by
  simp [appendOffer]
@[simp] theorem appendOffer_tariff (o : Offer) (d : Device) : (appendOffer o d).tariff = d.tariff := by
  simp [appendOffer]
@[simp] theorem appendOffer_meter (o : Offer) (d : Device) : (appendOffer o d).meter = d.meter := by
  simp [appendOffer]
@[simp] theorem appendOffer_store (o : Offer) (d : Device) : (appendOffer o d).store = d.store := by
  simp [appendOffer]
@[simp] theorem appendOffer_channel (o : Offer) (d : Device) : (appendOffer o d).channel = d.channel := by
  simp [appendOffer]
@[simp] theorem appendOffer_uplink (o : Offer) (d : Device) : (appendOffer o d).uplink = d.uplink := by
  simp [appendOffer]
@[simp] theorem appendOffer_mail (o : Offer) (d : Device) : (appendOffer o d).mail = d.mail := by
  simp [appendOffer]
@[simp] theorem appendOffer_emergency (o : Offer) (d : Device) : (appendOffer o d).emergency = d.emergency := by
  simp [appendOffer]
@[simp] theorem appendOffer_sign (o : Offer) (d : Device) : (appendOffer o d).sign = d.sign := by
  simp [appendOffer]
@[simp] theorem appendOffer_items (o : Offer) (d : Device) : (appendOffer o d).items = d.items := by
  simp [appendOffer]
@[simp] theorem appendOffer_backed (o : Offer) (d : Device) : (appendOffer o d).backed = d.backed := by
  simp [appendOffer]
@[simp] theorem appendOffer_radio (o : Offer) (d : Device) : (appendOffer o d).radio = d.radio := by
  simp [appendOffer]
@[simp] theorem appendOffer_ahead (o : Offer) (d : Device) : (appendOffer o d).ahead = d.ahead := by
  simp [appendOffer]
@[simp] theorem appendOffer_draws (o : Offer) (d : Device) : (appendOffer o d).draws = d.draws := by
  simp [appendOffer]

@[simp] theorem placeOffer_pins (o : Offer) (d : Device) : (placeOffer o d).pins = d.pins := by
  unfold placeOffer; split <;> (try split) <;> (try split) <;> simp
@[simp] theorem placeOffer_vehicle (o : Offer) (d : Device) : (placeOffer o d).vehicle = d.vehicle := by
  unfold placeOffer; split <;> (try split) <;> (try split) <;> simp
@[simp] theorem placeOffer_tariff (o : Offer) (d : Device) : (placeOffer o d).tariff = d.tariff := by
  unfold placeOffer; split <;> (try split) <;> (try split) <;> simp
@[simp] theorem placeOffer_meter (o : Offer) (d : Device) : (placeOffer o d).meter = d.meter := by
  unfold placeOffer; split <;> (try split) <;> (try split) <;> simp
@[simp] theorem placeOffer_store (o : Offer) (d : Device) : (placeOffer o d).store = d.store := by
  unfold placeOffer; split <;> (try split) <;> (try split) <;> simp
@[simp] theorem placeOffer_channel (o : Offer) (d : Device) : (placeOffer o d).channel = d.channel := by
  unfold placeOffer; split <;> (try split) <;> (try split) <;> simp
@[simp] theorem placeOffer_emergency (o : Offer) (d : Device) : (placeOffer o d).emergency = d.emergency := by
  unfold placeOffer; split <;> (try split) <;> (try split) <;> simp
@[simp] theorem placeOffer_sign (o : Offer) (d : Device) : (placeOffer o d).sign = d.sign := by
  unfold placeOffer; split <;> (try split) <;> (try split) <;> simp
@[simp] theorem placeOffer_items (o : Offer) (d : Device) : (placeOffer o d).items = d.items := by
  unfold placeOffer; split <;> (try split) <;> (try split) <;> simp
@[simp] theorem placeOffer_backed (o : Offer) (d : Device) : (placeOffer o d).backed = d.backed := by
  unfold placeOffer; split <;> (try split) <;> (try split) <;> simp
@[simp] theorem placeOffer_radio (o : Offer) (d : Device) : (placeOffer o d).radio = d.radio := by
  unfold placeOffer; split <;> (try split) <;> (try split) <;> simp
@[simp] theorem placeOffer_ahead (o : Offer) (d : Device) : (placeOffer o d).ahead = d.ahead := by
  unfold placeOffer; split <;> (try split) <;> (try split) <;> simp
@[simp] theorem placeOffer_draws (o : Offer) (d : Device) : (placeOffer o d).draws = d.draws := by
  unfold placeOffer; split <;> (try split) <;> (try split) <;> simp

@[simp] theorem takeOffer_pins (a : DownAddr) (j : Nat) (w : Bool) (k n p : Nat) (d : Device) : (takeOffer a j w k n p d).pins = d.pins := by
  unfold takeOffer; split <;> simp
@[simp] theorem takeOffer_vehicle (a : DownAddr) (j : Nat) (w : Bool) (k n p : Nat) (d : Device) : (takeOffer a j w k n p d).vehicle = d.vehicle := by
  unfold takeOffer; split <;> simp
@[simp] theorem takeOffer_tariff (a : DownAddr) (j : Nat) (w : Bool) (k n p : Nat) (d : Device) : (takeOffer a j w k n p d).tariff = d.tariff := by
  unfold takeOffer; split <;> simp
@[simp] theorem takeOffer_meter (a : DownAddr) (j : Nat) (w : Bool) (k n p : Nat) (d : Device) : (takeOffer a j w k n p d).meter = d.meter := by
  unfold takeOffer; split <;> simp
@[simp] theorem takeOffer_store (a : DownAddr) (j : Nat) (w : Bool) (k n p : Nat) (d : Device) : (takeOffer a j w k n p d).store = d.store := by
  unfold takeOffer; split <;> simp
@[simp] theorem takeOffer_channel (a : DownAddr) (j : Nat) (w : Bool) (k n p : Nat) (d : Device) : (takeOffer a j w k n p d).channel = d.channel := by
  unfold takeOffer; split <;> simp
@[simp] theorem takeOffer_emergency (a : DownAddr) (j : Nat) (w : Bool) (k n p : Nat) (d : Device) : (takeOffer a j w k n p d).emergency = d.emergency := by
  unfold takeOffer; split <;> simp
@[simp] theorem takeOffer_sign (a : DownAddr) (j : Nat) (w : Bool) (k n p : Nat) (d : Device) : (takeOffer a j w k n p d).sign = d.sign := by
  unfold takeOffer; split <;> simp
@[simp] theorem takeOffer_items (a : DownAddr) (j : Nat) (w : Bool) (k n p : Nat) (d : Device) : (takeOffer a j w k n p d).items = d.items := by
  unfold takeOffer; split <;> simp
@[simp] theorem takeOffer_backed (a : DownAddr) (j : Nat) (w : Bool) (k n p : Nat) (d : Device) : (takeOffer a j w k n p d).backed = d.backed := by
  unfold takeOffer; split <;> simp
@[simp] theorem takeOffer_radio (a : DownAddr) (j : Nat) (w : Bool) (k n p : Nat) (d : Device) : (takeOffer a j w k n p d).radio = d.radio := by
  unfold takeOffer; split <;> simp
@[simp] theorem takeOffer_ahead (a : DownAddr) (j : Nat) (w : Bool) (k n p : Nat) (d : Device) : (takeOffer a j w k n p d).ahead = d.ahead := by
  unfold takeOffer; split <;> simp
@[simp] theorem takeOffer_draws (a : DownAddr) (j : Nat) (w : Bool) (k n p : Nat) (d : Device) : (takeOffer a j w k n p d).draws = d.draws := by
  unfold takeOffer; split <;> simp

@[simp] theorem takeDetail_pins (j p : Nat) (cs : List Byte) (d : Device) : (takeDetail j p cs d).pins = d.pins := by
  unfold takeDetail; split <;> (try split) <;> simp
@[simp] theorem takeDetail_vehicle (j p : Nat) (cs : List Byte) (d : Device) : (takeDetail j p cs d).vehicle = d.vehicle := by
  unfold takeDetail; split <;> (try split) <;> simp
@[simp] theorem takeDetail_tariff (j p : Nat) (cs : List Byte) (d : Device) : (takeDetail j p cs d).tariff = d.tariff := by
  unfold takeDetail; split <;> (try split) <;> simp
@[simp] theorem takeDetail_meter (j p : Nat) (cs : List Byte) (d : Device) : (takeDetail j p cs d).meter = d.meter := by
  unfold takeDetail; split <;> (try split) <;> simp
@[simp] theorem takeDetail_store (j p : Nat) (cs : List Byte) (d : Device) : (takeDetail j p cs d).store = d.store := by
  unfold takeDetail; split <;> (try split) <;> simp
@[simp] theorem takeDetail_channel (j p : Nat) (cs : List Byte) (d : Device) : (takeDetail j p cs d).channel = d.channel := by
  unfold takeDetail; split <;> (try split) <;> simp
@[simp] theorem takeDetail_uplink (j p : Nat) (cs : List Byte) (d : Device) : (takeDetail j p cs d).uplink = d.uplink := by
  unfold takeDetail; split <;> (try split) <;> simp
@[simp] theorem takeDetail_mail (j p : Nat) (cs : List Byte) (d : Device) : (takeDetail j p cs d).mail = d.mail := by
  unfold takeDetail; split <;> (try split) <;> simp
@[simp] theorem takeDetail_emergency (j p : Nat) (cs : List Byte) (d : Device) : (takeDetail j p cs d).emergency = d.emergency := by
  unfold takeDetail; split <;> (try split) <;> simp
@[simp] theorem takeDetail_sign (j p : Nat) (cs : List Byte) (d : Device) : (takeDetail j p cs d).sign = d.sign := by
  unfold takeDetail; split <;> (try split) <;> simp
@[simp] theorem takeDetail_items (j p : Nat) (cs : List Byte) (d : Device) : (takeDetail j p cs d).items = d.items := by
  unfold takeDetail; split <;> (try split) <;> simp
@[simp] theorem takeDetail_backed (j p : Nat) (cs : List Byte) (d : Device) : (takeDetail j p cs d).backed = d.backed := by
  unfold takeDetail; split <;> (try split) <;> simp
@[simp] theorem takeDetail_radio (j p : Nat) (cs : List Byte) (d : Device) : (takeDetail j p cs d).radio = d.radio := by
  unfold takeDetail; split <;> (try split) <;> simp
@[simp] theorem takeDetail_ahead (j p : Nat) (cs : List Byte) (d : Device) : (takeDetail j p cs d).ahead = d.ahead := by
  unfold takeDetail; split <;> (try split) <;> simp
@[simp] theorem takeDetail_draws (j p : Nat) (cs : List Byte) (d : Device) : (takeDetail j p cs d).draws = d.draws := by
  unfold takeDetail; split <;> (try split) <;> simp

@[simp] theorem takeZonePosition_pins (z p : Nat) (d : Device) : (takeZonePosition z p d).pins = d.pins := by
  unfold takeZonePosition; split <;> (try split) <;> (try split) <;> simp
@[simp] theorem takeZonePosition_vehicle (z p : Nat) (d : Device) : (takeZonePosition z p d).vehicle = d.vehicle := by
  unfold takeZonePosition; split <;> (try split) <;> (try split) <;> simp
@[simp] theorem takeZonePosition_tariff (z p : Nat) (d : Device) : (takeZonePosition z p d).tariff = d.tariff := by
  unfold takeZonePosition; split <;> (try split) <;> (try split) <;> simp
@[simp] theorem takeZonePosition_meter (z p : Nat) (d : Device) : (takeZonePosition z p d).meter = d.meter := by
  unfold takeZonePosition; split <;> (try split) <;> (try split) <;> simp
@[simp] theorem takeZonePosition_store (z p : Nat) (d : Device) : (takeZonePosition z p d).store = d.store := by
  unfold takeZonePosition; split <;> (try split) <;> (try split) <;> simp
@[simp] theorem takeZonePosition_channel (z p : Nat) (d : Device) : (takeZonePosition z p d).channel = d.channel := by
  unfold takeZonePosition; split <;> (try split) <;> (try split) <;> simp
@[simp] theorem takeZonePosition_uplink (z p : Nat) (d : Device) : (takeZonePosition z p d).uplink = d.uplink := by
  unfold takeZonePosition; split <;> (try split) <;> (try split) <;> simp
@[simp] theorem takeZonePosition_mail (z p : Nat) (d : Device) : (takeZonePosition z p d).mail = d.mail := by
  unfold takeZonePosition; split <;> (try split) <;> (try split) <;> simp
@[simp] theorem takeZonePosition_emergency (z p : Nat) (d : Device) : (takeZonePosition z p d).emergency = d.emergency := by
  unfold takeZonePosition; split <;> (try split) <;> (try split) <;> simp
@[simp] theorem takeZonePosition_sign (z p : Nat) (d : Device) : (takeZonePosition z p d).sign = d.sign := by
  unfold takeZonePosition; split <;> (try split) <;> (try split) <;> simp
@[simp] theorem takeZonePosition_items (z p : Nat) (d : Device) : (takeZonePosition z p d).items = d.items := by
  unfold takeZonePosition; split <;> (try split) <;> (try split) <;> simp
@[simp] theorem takeZonePosition_backed (z p : Nat) (d : Device) : (takeZonePosition z p d).backed = d.backed := by
  unfold takeZonePosition; split <;> (try split) <;> (try split) <;> simp
@[simp] theorem takeZonePosition_radio (z p : Nat) (d : Device) : (takeZonePosition z p d).radio = d.radio := by
  unfold takeZonePosition; split <;> (try split) <;> (try split) <;> simp
@[simp] theorem takeZonePosition_ahead (z p : Nat) (d : Device) : (takeZonePosition z p d).ahead = d.ahead := by
  unfold takeZonePosition; split <;> (try split) <;> (try split) <;> simp
@[simp] theorem takeZonePosition_draws (z p : Nat) (d : Device) : (takeZonePosition z p d).draws = d.draws := by
  unfold takeZonePosition; split <;> (try split) <;> (try split) <;> simp

@[simp] theorem bidDelivered_pins (j : Nat) (d : Device) : (bidDelivered j d).pins = d.pins := by
  simp [bidDelivered]
@[simp] theorem bidDelivered_vehicle (j : Nat) (d : Device) : (bidDelivered j d).vehicle = d.vehicle := by
  simp [bidDelivered]
@[simp] theorem bidDelivered_tariff (j : Nat) (d : Device) : (bidDelivered j d).tariff = d.tariff := by
  simp [bidDelivered]
@[simp] theorem bidDelivered_meter (j : Nat) (d : Device) : (bidDelivered j d).meter = d.meter := by
  simp [bidDelivered]
@[simp] theorem bidDelivered_store (j : Nat) (d : Device) : (bidDelivered j d).store = d.store := by
  simp [bidDelivered]
@[simp] theorem bidDelivered_channel (j : Nat) (d : Device) : (bidDelivered j d).channel = d.channel := by
  simp [bidDelivered]
@[simp] theorem bidDelivered_uplink (j : Nat) (d : Device) : (bidDelivered j d).uplink = d.uplink := by
  simp [bidDelivered]
@[simp] theorem bidDelivered_mail (j : Nat) (d : Device) : (bidDelivered j d).mail = d.mail := by
  simp [bidDelivered]
@[simp] theorem bidDelivered_emergency (j : Nat) (d : Device) : (bidDelivered j d).emergency = d.emergency := by
  simp [bidDelivered]
@[simp] theorem bidDelivered_sign (j : Nat) (d : Device) : (bidDelivered j d).sign = d.sign := by
  simp [bidDelivered]
@[simp] theorem bidDelivered_link (j : Nat) (d : Device) : (bidDelivered j d).link = d.link := by
  simp [bidDelivered]
@[simp] theorem bidDelivered_items (j : Nat) (d : Device) : (bidDelivered j d).items = d.items := by
  simp [bidDelivered]
@[simp] theorem bidDelivered_backed (j : Nat) (d : Device) : (bidDelivered j d).backed = d.backed := by
  simp [bidDelivered]
@[simp] theorem bidDelivered_radio (j : Nat) (d : Device) : (bidDelivered j d).radio = d.radio := by
  simp [bidDelivered]
@[simp] theorem bidDelivered_ahead (j : Nat) (d : Device) : (bidDelivered j d).ahead = d.ahead := by
  simp [bidDelivered]
@[simp] theorem bidDelivered_draws (j : Nat) (d : Device) : (bidDelivered j d).draws = d.draws := by
  simp [bidDelivered]

@[simp] theorem bidFailed_pins (j : Nat) (d : Device) : (bidFailed j d).pins = d.pins := by
  unfold bidFailed; split <;> (try split) <;> simp
@[simp] theorem bidFailed_vehicle (j : Nat) (d : Device) : (bidFailed j d).vehicle = d.vehicle := by
  unfold bidFailed; split <;> (try split) <;> simp
@[simp] theorem bidFailed_tariff (j : Nat) (d : Device) : (bidFailed j d).tariff = d.tariff := by
  unfold bidFailed; split <;> (try split) <;> simp
@[simp] theorem bidFailed_meter (j : Nat) (d : Device) : (bidFailed j d).meter = d.meter := by
  unfold bidFailed; split <;> (try split) <;> simp
@[simp] theorem bidFailed_store (j : Nat) (d : Device) : (bidFailed j d).store = d.store := by
  unfold bidFailed; split <;> (try split) <;> simp
@[simp] theorem bidFailed_channel (j : Nat) (d : Device) : (bidFailed j d).channel = d.channel := by
  unfold bidFailed; split <;> (try split) <;> simp
@[simp] theorem bidFailed_emergency (j : Nat) (d : Device) : (bidFailed j d).emergency = d.emergency := by
  unfold bidFailed; split <;> (try split) <;> simp
@[simp] theorem bidFailed_sign (j : Nat) (d : Device) : (bidFailed j d).sign = d.sign := by
  unfold bidFailed; split <;> (try split) <;> simp
@[simp] theorem bidFailed_items (j : Nat) (d : Device) : (bidFailed j d).items = d.items := by
  unfold bidFailed; split <;> (try split) <;> simp
@[simp] theorem bidFailed_backed (j : Nat) (d : Device) : (bidFailed j d).backed = d.backed := by
  unfold bidFailed; split <;> (try split) <;> simp
@[simp] theorem bidFailed_radio (j : Nat) (d : Device) : (bidFailed j d).radio = d.radio := by
  unfold bidFailed; split <;> (try split) <;> simp
@[simp] theorem bidFailed_ahead (j : Nat) (d : Device) : (bidFailed j d).ahead = d.ahead := by
  unfold bidFailed; split <;> (try split) <;> simp
@[simp] theorem bidFailed_draws (j : Nat) (d : Device) : (bidFailed j d).draws = d.draws := by
  unfold bidFailed; split <;> (try split) <;> simp

@[simp] theorem compareBooking_pins (d : Device) : (compareBooking d).pins = d.pins := by
  simp only [compareBooking]; split <;> (try split) <;> (try split) <;> simp
@[simp] theorem compareBooking_vehicle (d : Device) : (compareBooking d).vehicle = d.vehicle := by
  simp only [compareBooking]; split <;> (try split) <;> (try split) <;> simp
@[simp] theorem compareBooking_tariff (d : Device) : (compareBooking d).tariff = d.tariff := by
  simp only [compareBooking]; split <;> (try split) <;> (try split) <;> simp
@[simp] theorem compareBooking_meter (d : Device) : (compareBooking d).meter = d.meter := by
  simp only [compareBooking]; split <;> (try split) <;> (try split) <;> simp
@[simp] theorem compareBooking_store (d : Device) : (compareBooking d).store = d.store := by
  simp only [compareBooking]; split <;> (try split) <;> (try split) <;> simp
@[simp] theorem compareBooking_channel (d : Device) : (compareBooking d).channel = d.channel := by
  simp only [compareBooking]; split <;> (try split) <;> (try split) <;> simp
@[simp] theorem compareBooking_mail (d : Device) : (compareBooking d).mail = d.mail := by
  simp only [compareBooking]; split <;> (try split) <;> (try split) <;> simp
@[simp] theorem compareBooking_emergency (d : Device) : (compareBooking d).emergency = d.emergency := by
  simp only [compareBooking]; split <;> (try split) <;> (try split) <;> simp
@[simp] theorem compareBooking_sign (d : Device) : (compareBooking d).sign = d.sign := by
  simp only [compareBooking]; split <;> (try split) <;> (try split) <;> simp
@[simp] theorem compareBooking_link (d : Device) : (compareBooking d).link = d.link := by
  simp only [compareBooking]; split <;> (try split) <;> (try split) <;> simp
@[simp] theorem compareBooking_items (d : Device) : (compareBooking d).items = d.items := by
  simp only [compareBooking]; split <;> (try split) <;> (try split) <;> simp
@[simp] theorem compareBooking_backed (d : Device) : (compareBooking d).backed = d.backed := by
  simp only [compareBooking]; split <;> (try split) <;> (try split) <;> simp
@[simp] theorem compareBooking_radio (d : Device) : (compareBooking d).radio = d.radio := by
  simp only [compareBooking]; split <;> (try split) <;> (try split) <;> simp
@[simp] theorem compareBooking_ahead (d : Device) : (compareBooking d).ahead = d.ahead := by
  simp only [compareBooking]; split <;> (try split) <;> (try split) <;> simp
@[simp] theorem compareBooking_draws (d : Device) : (compareBooking d).draws = d.draws := by
  simp only [compareBooking]; split <;> (try split) <;> (try split) <;> simp

@[simp] theorem statusTold_pins (b : Booking) (d : Device) : (statusTold b d).pins = d.pins := by
  simp [statusTold]
@[simp] theorem statusTold_vehicle (b : Booking) (d : Device) : (statusTold b d).vehicle = d.vehicle := by
  simp [statusTold]
@[simp] theorem statusTold_tariff (b : Booking) (d : Device) : (statusTold b d).tariff = d.tariff := by
  simp [statusTold]
@[simp] theorem statusTold_meter (b : Booking) (d : Device) : (statusTold b d).meter = d.meter := by
  simp [statusTold]
@[simp] theorem statusTold_store (b : Booking) (d : Device) : (statusTold b d).store = d.store := by
  simp [statusTold]
@[simp] theorem statusTold_channel (b : Booking) (d : Device) : (statusTold b d).channel = d.channel := by
  simp [statusTold]
@[simp] theorem statusTold_mail (b : Booking) (d : Device) : (statusTold b d).mail = d.mail := by
  simp [statusTold]
@[simp] theorem statusTold_emergency (b : Booking) (d : Device) : (statusTold b d).emergency = d.emergency := by
  simp [statusTold]
@[simp] theorem statusTold_sign (b : Booking) (d : Device) : (statusTold b d).sign = d.sign := by
  simp [statusTold]
@[simp] theorem statusTold_link (b : Booking) (d : Device) : (statusTold b d).link = d.link := by
  simp [statusTold]
@[simp] theorem statusTold_items (b : Booking) (d : Device) : (statusTold b d).items = d.items := by
  simp [statusTold]
@[simp] theorem statusTold_backed (b : Booking) (d : Device) : (statusTold b d).backed = d.backed := by
  simp [statusTold]
@[simp] theorem statusTold_radio (b : Booking) (d : Device) : (statusTold b d).radio = d.radio := by
  simp [statusTold]
@[simp] theorem statusTold_ahead (b : Booking) (d : Device) : (statusTold b d).ahead = d.ahead := by
  simp [statusTold]
@[simp] theorem statusTold_draws (b : Booking) (d : Device) : (statusTold b d).draws = d.draws := by
  simp [statusTold]

/-! ### The Trip Store, the Tariff Store and the Fare Meter -/

@[simp] theorem loseRecord_pins (d : Device) : (loseRecord d).pins = d.pins := by
  simp [loseRecord]
@[simp] theorem loseRecord_vehicle (d : Device) : (loseRecord d).vehicle = d.vehicle := by
  simp [loseRecord]
@[simp] theorem loseRecord_meter (d : Device) : (loseRecord d).meter = d.meter := by
  simp [loseRecord]
@[simp] theorem loseRecord_store (d : Device) : (loseRecord d).store = d.store := by
  simp [loseRecord]
@[simp] theorem loseRecord_channel (d : Device) : (loseRecord d).channel = d.channel := by
  simp [loseRecord]
@[simp] theorem loseRecord_uplink (d : Device) : (loseRecord d).uplink = d.uplink := by
  simp [loseRecord]
@[simp] theorem loseRecord_offers (d : Device) : (loseRecord d).offers = d.offers := by
  simp [loseRecord]
@[simp] theorem loseRecord_mail (d : Device) : (loseRecord d).mail = d.mail := by
  simp [loseRecord]
@[simp] theorem loseRecord_emergency (d : Device) : (loseRecord d).emergency = d.emergency := by
  simp [loseRecord]
@[simp] theorem loseRecord_sign (d : Device) : (loseRecord d).sign = d.sign := by
  simp [loseRecord]
@[simp] theorem loseRecord_items (d : Device) : (loseRecord d).items = d.items := by
  simp [loseRecord]
@[simp] theorem loseRecord_backed (d : Device) : (loseRecord d).backed = d.backed := by
  simp [loseRecord]
@[simp] theorem loseRecord_radio (d : Device) : (loseRecord d).radio = d.radio := by
  simp [loseRecord]
@[simp] theorem loseRecord_ahead (d : Device) : (loseRecord d).ahead = d.ahead := by
  simp [loseRecord]
@[simp] theorem loseRecord_draws (d : Device) : (loseRecord d).draws = d.draws := by
  simp [loseRecord]

@[simp] theorem displace_pins (d : Device) : (displace d).pins = d.pins := by
  simp only [displace]; split <;> (try split) <;> simp
@[simp] theorem displace_vehicle (d : Device) : (displace d).vehicle = d.vehicle := by
  simp only [displace]; split <;> (try split) <;> simp
@[simp] theorem displace_meter (d : Device) : (displace d).meter = d.meter := by
  simp only [displace]; split <;> (try split) <;> simp
@[simp] theorem displace_channel (d : Device) : (displace d).channel = d.channel := by
  simp only [displace]; split <;> (try split) <;> simp
@[simp] theorem displace_offers (d : Device) : (displace d).offers = d.offers := by
  simp only [displace]; split <;> (try split) <;> simp
@[simp] theorem displace_emergency (d : Device) : (displace d).emergency = d.emergency := by
  simp only [displace]; split <;> (try split) <;> simp
@[simp] theorem displace_sign (d : Device) : (displace d).sign = d.sign := by
  simp only [displace]; split <;> (try split) <;> simp
@[simp] theorem displace_items (d : Device) : (displace d).items = d.items := by
  simp only [displace]; split <;> (try split) <;> simp
@[simp] theorem displace_backed (d : Device) : (displace d).backed = d.backed := by
  simp only [displace]; split <;> (try split) <;> simp
@[simp] theorem displace_radio (d : Device) : (displace d).radio = d.radio := by
  simp only [displace]; split <;> (try split) <;> simp
@[simp] theorem displace_ahead (d : Device) : (displace d).ahead = d.ahead := by
  simp only [displace]; split <;> (try split) <;> simp
@[simp] theorem displace_draws (d : Device) : (displace d).draws = d.draws := by
  simp only [displace]; split <;> (try split) <;> simp

@[simp] theorem makeRoom_pins (d : Device) : (makeRoom d).pins = d.pins := by
  unfold makeRoom; split <;> (try split) <;> simp
@[simp] theorem makeRoom_vehicle (d : Device) : (makeRoom d).vehicle = d.vehicle := by
  unfold makeRoom; split <;> (try split) <;> simp
@[simp] theorem makeRoom_meter (d : Device) : (makeRoom d).meter = d.meter := by
  unfold makeRoom; split <;> (try split) <;> simp
@[simp] theorem makeRoom_channel (d : Device) : (makeRoom d).channel = d.channel := by
  unfold makeRoom; split <;> (try split) <;> simp
@[simp] theorem makeRoom_offers (d : Device) : (makeRoom d).offers = d.offers := by
  unfold makeRoom; split <;> (try split) <;> simp
@[simp] theorem makeRoom_emergency (d : Device) : (makeRoom d).emergency = d.emergency := by
  unfold makeRoom; split <;> (try split) <;> simp
@[simp] theorem makeRoom_sign (d : Device) : (makeRoom d).sign = d.sign := by
  unfold makeRoom; split <;> (try split) <;> simp
@[simp] theorem makeRoom_items (d : Device) : (makeRoom d).items = d.items := by
  unfold makeRoom; split <;> (try split) <;> simp
@[simp] theorem makeRoom_backed (d : Device) : (makeRoom d).backed = d.backed := by
  unfold makeRoom; split <;> (try split) <;> simp
@[simp] theorem makeRoom_radio (d : Device) : (makeRoom d).radio = d.radio := by
  unfold makeRoom; split <;> (try split) <;> simp
@[simp] theorem makeRoom_ahead (d : Device) : (makeRoom d).ahead = d.ahead := by
  unfold makeRoom; split <;> (try split) <;> simp
@[simp] theorem makeRoom_draws (d : Device) : (makeRoom d).draws = d.draws := by
  unfold makeRoom; split <;> (try split) <;> simp

@[simp] theorem storeRecord_pins (b : RecordBody) (d : Device) : (storeRecord b d).2.pins = d.pins := by
  unfold storeRecord; split <;> simp
@[simp] theorem storeRecord_vehicle (b : RecordBody) (d : Device) : (storeRecord b d).2.vehicle = d.vehicle := by
  unfold storeRecord; split <;> simp
@[simp] theorem storeRecord_tariff (b : RecordBody) (d : Device) : (storeRecord b d).2.tariff = d.tariff := by
  unfold storeRecord; split <;> simp
@[simp] theorem storeRecord_meter (b : RecordBody) (d : Device) : (storeRecord b d).2.meter = d.meter := by
  unfold storeRecord; split <;> simp
@[simp] theorem storeRecord_channel (b : RecordBody) (d : Device) : (storeRecord b d).2.channel = d.channel := by
  unfold storeRecord; split <;> simp
@[simp] theorem storeRecord_offers (b : RecordBody) (d : Device) : (storeRecord b d).2.offers = d.offers := by
  unfold storeRecord; split <;> simp
@[simp] theorem storeRecord_mail (b : RecordBody) (d : Device) : (storeRecord b d).2.mail = d.mail := by
  unfold storeRecord; split <;> simp
@[simp] theorem storeRecord_emergency (b : RecordBody) (d : Device) : (storeRecord b d).2.emergency = d.emergency := by
  unfold storeRecord; split <;> simp
@[simp] theorem storeRecord_sign (b : RecordBody) (d : Device) : (storeRecord b d).2.sign = d.sign := by
  unfold storeRecord; split <;> simp
@[simp] theorem storeRecord_link (b : RecordBody) (d : Device) : (storeRecord b d).2.link = d.link := by
  unfold storeRecord; split <;> simp
@[simp] theorem storeRecord_items (b : RecordBody) (d : Device) : (storeRecord b d).2.items = d.items := by
  unfold storeRecord; split <;> simp
@[simp] theorem storeRecord_backed (b : RecordBody) (d : Device) : (storeRecord b d).2.backed = d.backed := by
  unfold storeRecord; split <;> simp
@[simp] theorem storeRecord_radio (b : RecordBody) (d : Device) : (storeRecord b d).2.radio = d.radio := by
  unfold storeRecord; split <;> simp
@[simp] theorem storeRecord_ahead (b : RecordBody) (d : Device) : (storeRecord b d).2.ahead = d.ahead := by
  unfold storeRecord; split <;> simp
@[simp] theorem storeRecord_draws (b : RecordBody) (d : Device) : (storeRecord b d).2.draws = d.draws := by
  unfold storeRecord; split <;> simp

@[simp] theorem recordDelivered_pins (n : Nat) (d : Device) : (recordDelivered n d).pins = d.pins := by
  simp [recordDelivered]
@[simp] theorem recordDelivered_vehicle (n : Nat) (d : Device) : (recordDelivered n d).vehicle = d.vehicle := by
  simp [recordDelivered]
@[simp] theorem recordDelivered_tariff (n : Nat) (d : Device) : (recordDelivered n d).tariff = d.tariff := by
  simp [recordDelivered]
@[simp] theorem recordDelivered_meter (n : Nat) (d : Device) : (recordDelivered n d).meter = d.meter := by
  simp [recordDelivered]
@[simp] theorem recordDelivered_channel (n : Nat) (d : Device) : (recordDelivered n d).channel = d.channel := by
  simp [recordDelivered]
@[simp] theorem recordDelivered_offers (n : Nat) (d : Device) : (recordDelivered n d).offers = d.offers := by
  simp [recordDelivered]
@[simp] theorem recordDelivered_mail (n : Nat) (d : Device) : (recordDelivered n d).mail = d.mail := by
  simp [recordDelivered]
@[simp] theorem recordDelivered_emergency (n : Nat) (d : Device) : (recordDelivered n d).emergency = d.emergency := by
  simp [recordDelivered]
@[simp] theorem recordDelivered_sign (n : Nat) (d : Device) : (recordDelivered n d).sign = d.sign := by
  simp [recordDelivered]
@[simp] theorem recordDelivered_link (n : Nat) (d : Device) : (recordDelivered n d).link = d.link := by
  simp [recordDelivered]
@[simp] theorem recordDelivered_items (n : Nat) (d : Device) : (recordDelivered n d).items = d.items := by
  simp [recordDelivered]
@[simp] theorem recordDelivered_backed (n : Nat) (d : Device) : (recordDelivered n d).backed = d.backed := by
  simp [recordDelivered]
@[simp] theorem recordDelivered_radio (n : Nat) (d : Device) : (recordDelivered n d).radio = d.radio := by
  simp [recordDelivered]
@[simp] theorem recordDelivered_ahead (n : Nat) (d : Device) : (recordDelivered n d).ahead = d.ahead := by
  simp [recordDelivered]
@[simp] theorem recordDelivered_draws (n : Nat) (d : Device) : (recordDelivered n d).draws = d.draws := by
  simp [recordDelivered]

@[simp] theorem handResult_pins (r : Option Nat) (d : Device) : (handResult r d).pins = d.pins := by
  unfold handResult; split <;> simp
@[simp] theorem handResult_vehicle (r : Option Nat) (d : Device) : (handResult r d).vehicle = d.vehicle := by
  unfold handResult; split <;> simp
@[simp] theorem handResult_tariff (r : Option Nat) (d : Device) : (handResult r d).tariff = d.tariff := by
  unfold handResult; split <;> simp
@[simp] theorem handResult_store (r : Option Nat) (d : Device) : (handResult r d).store = d.store := by
  unfold handResult; split <;> simp
@[simp] theorem handResult_channel (r : Option Nat) (d : Device) : (handResult r d).channel = d.channel := by
  unfold handResult; split <;> simp
@[simp] theorem handResult_uplink (r : Option Nat) (d : Device) : (handResult r d).uplink = d.uplink := by
  unfold handResult; split <;> simp
@[simp] theorem handResult_offers (r : Option Nat) (d : Device) : (handResult r d).offers = d.offers := by
  unfold handResult; split <;> simp
@[simp] theorem handResult_mail (r : Option Nat) (d : Device) : (handResult r d).mail = d.mail := by
  unfold handResult; split <;> simp
@[simp] theorem handResult_emergency (r : Option Nat) (d : Device) : (handResult r d).emergency = d.emergency := by
  unfold handResult; split <;> simp
@[simp] theorem handResult_sign (r : Option Nat) (d : Device) : (handResult r d).sign = d.sign := by
  unfold handResult; split <;> simp
@[simp] theorem handResult_link (r : Option Nat) (d : Device) : (handResult r d).link = d.link := by
  unfold handResult; split <;> simp
@[simp] theorem handResult_items (r : Option Nat) (d : Device) : (handResult r d).items = d.items := by
  unfold handResult; split <;> simp
@[simp] theorem handResult_backed (r : Option Nat) (d : Device) : (handResult r d).backed = d.backed := by
  unfold handResult; split <;> simp
@[simp] theorem handResult_radio (r : Option Nat) (d : Device) : (handResult r d).radio = d.radio := by
  unfold handResult; split <;> simp
@[simp] theorem handResult_ahead (r : Option Nat) (d : Device) : (handResult r d).ahead = d.ahead := by
  unfold handResult; split <;> simp
@[simp] theorem handResult_draws (r : Option Nat) (d : Device) : (handResult r d).draws = d.draws := by
  unfold handResult; split <;> simp

@[simp] theorem evaluate_pins (d : Device) : (evaluate d).pins = d.pins := by
  simp only [evaluate]; split <;> simp
@[simp] theorem evaluate_vehicle (d : Device) : (evaluate d).vehicle = d.vehicle := by
  simp only [evaluate]; split <;> simp
@[simp] theorem evaluate_store (d : Device) : (evaluate d).store = d.store := by
  simp only [evaluate]; split <;> simp
@[simp] theorem evaluate_channel (d : Device) : (evaluate d).channel = d.channel := by
  simp only [evaluate]; split <;> simp
@[simp] theorem evaluate_uplink (d : Device) : (evaluate d).uplink = d.uplink := by
  simp only [evaluate]; split <;> simp
@[simp] theorem evaluate_offers (d : Device) : (evaluate d).offers = d.offers := by
  simp only [evaluate]; split <;> simp
@[simp] theorem evaluate_mail (d : Device) : (evaluate d).mail = d.mail := by
  simp only [evaluate]; split <;> simp
@[simp] theorem evaluate_emergency (d : Device) : (evaluate d).emergency = d.emergency := by
  simp only [evaluate]; split <;> simp
@[simp] theorem evaluate_sign (d : Device) : (evaluate d).sign = d.sign := by
  simp only [evaluate]; split <;> simp
@[simp] theorem evaluate_link (d : Device) : (evaluate d).link = d.link := by
  simp only [evaluate]; split <;> simp
@[simp] theorem evaluate_items (d : Device) : (evaluate d).items = d.items := by
  simp only [evaluate]; split <;> simp
@[simp] theorem evaluate_backed (d : Device) : (evaluate d).backed = d.backed := by
  simp only [evaluate]; split <;> simp
@[simp] theorem evaluate_radio (d : Device) : (evaluate d).radio = d.radio := by
  simp only [evaluate]; split <;> simp
@[simp] theorem evaluate_ahead (d : Device) : (evaluate d).ahead = d.ahead := by
  simp only [evaluate]; split <;> simp
@[simp] theorem evaluate_draws (d : Device) : (evaluate d).draws = d.draws := by
  simp only [evaluate]; split <;> simp

@[simp] theorem abortLoad_pins (d : Device) : (abortLoad d).pins = d.pins := by
  unfold abortLoad; split <;> simp
@[simp] theorem abortLoad_vehicle (d : Device) : (abortLoad d).vehicle = d.vehicle := by
  unfold abortLoad; split <;> simp
@[simp] theorem abortLoad_meter (d : Device) : (abortLoad d).meter = d.meter := by
  unfold abortLoad; split <;> simp
@[simp] theorem abortLoad_store (d : Device) : (abortLoad d).store = d.store := by
  unfold abortLoad; split <;> simp
@[simp] theorem abortLoad_channel (d : Device) : (abortLoad d).channel = d.channel := by
  unfold abortLoad; split <;> simp
@[simp] theorem abortLoad_uplink (d : Device) : (abortLoad d).uplink = d.uplink := by
  unfold abortLoad; split <;> simp
@[simp] theorem abortLoad_offers (d : Device) : (abortLoad d).offers = d.offers := by
  unfold abortLoad; split <;> simp
@[simp] theorem abortLoad_mail (d : Device) : (abortLoad d).mail = d.mail := by
  unfold abortLoad; split <;> simp
@[simp] theorem abortLoad_emergency (d : Device) : (abortLoad d).emergency = d.emergency := by
  unfold abortLoad; split <;> simp
@[simp] theorem abortLoad_sign (d : Device) : (abortLoad d).sign = d.sign := by
  unfold abortLoad; split <;> simp
@[simp] theorem abortLoad_items (d : Device) : (abortLoad d).items = d.items := by
  unfold abortLoad; split <;> simp
@[simp] theorem abortLoad_backed (d : Device) : (abortLoad d).backed = d.backed := by
  unfold abortLoad; split <;> simp
@[simp] theorem abortLoad_radio (d : Device) : (abortLoad d).radio = d.radio := by
  unfold abortLoad; split <;> simp
@[simp] theorem abortLoad_ahead (d : Device) : (abortLoad d).ahead = d.ahead := by
  unfold abortLoad; split <;> simp
@[simp] theorem abortLoad_draws (d : Device) : (abortLoad d).draws = d.draws := by
  unfold abortLoad; split <;> simp

@[simp] theorem switchTo_pins (b : Bool) (d : Device) : (switchTo b d).pins = d.pins := by
  simp only [switchTo]; split <;> simp
@[simp] theorem switchTo_vehicle (b : Bool) (d : Device) : (switchTo b d).vehicle = d.vehicle := by
  simp only [switchTo]; split <;> simp
@[simp] theorem switchTo_meter (b : Bool) (d : Device) : (switchTo b d).meter = d.meter := by
  simp only [switchTo]; split <;> simp
@[simp] theorem switchTo_store (b : Bool) (d : Device) : (switchTo b d).store = d.store := by
  simp only [switchTo]; split <;> simp
@[simp] theorem switchTo_channel (b : Bool) (d : Device) : (switchTo b d).channel = d.channel := by
  simp only [switchTo]; split <;> simp
@[simp] theorem switchTo_uplink (b : Bool) (d : Device) : (switchTo b d).uplink = d.uplink := by
  simp only [switchTo]; split <;> simp
@[simp] theorem switchTo_offers (b : Bool) (d : Device) : (switchTo b d).offers = d.offers := by
  simp only [switchTo]; split <;> simp
@[simp] theorem switchTo_mail (b : Bool) (d : Device) : (switchTo b d).mail = d.mail := by
  simp only [switchTo]; split <;> simp
@[simp] theorem switchTo_emergency (b : Bool) (d : Device) : (switchTo b d).emergency = d.emergency := by
  simp only [switchTo]; split <;> simp
@[simp] theorem switchTo_sign (b : Bool) (d : Device) : (switchTo b d).sign = d.sign := by
  simp only [switchTo]; split <;> simp
@[simp] theorem switchTo_items (b : Bool) (d : Device) : (switchTo b d).items = d.items := by
  simp only [switchTo]; split <;> simp
@[simp] theorem switchTo_backed (b : Bool) (d : Device) : (switchTo b d).backed = d.backed := by
  simp only [switchTo]; split <;> simp
@[simp] theorem switchTo_radio (b : Bool) (d : Device) : (switchTo b d).radio = d.radio := by
  simp only [switchTo]; split <;> simp
@[simp] theorem switchTo_ahead (b : Bool) (d : Device) : (switchTo b d).ahead = d.ahead := by
  simp only [switchTo]; split <;> simp
@[simp] theorem switchTo_draws (b : Bool) (d : Device) : (switchTo b d).draws = d.draws := by
  simp only [switchTo]; split <;> simp

@[simp] theorem sampleSwitch_pins (b : Bool) (d : Device) : (sampleSwitch b d).pins = d.pins := by
  simp only [sampleSwitch]; split <;> (try split) <;> simp
@[simp] theorem sampleSwitch_vehicle (b : Bool) (d : Device) : (sampleSwitch b d).vehicle = d.vehicle := by
  simp only [sampleSwitch]; split <;> (try split) <;> simp
@[simp] theorem sampleSwitch_meter (b : Bool) (d : Device) : (sampleSwitch b d).meter = d.meter := by
  simp only [sampleSwitch]; split <;> (try split) <;> simp
@[simp] theorem sampleSwitch_store (b : Bool) (d : Device) : (sampleSwitch b d).store = d.store := by
  simp only [sampleSwitch]; split <;> (try split) <;> simp
@[simp] theorem sampleSwitch_channel (b : Bool) (d : Device) : (sampleSwitch b d).channel = d.channel := by
  simp only [sampleSwitch]; split <;> (try split) <;> simp
@[simp] theorem sampleSwitch_uplink (b : Bool) (d : Device) : (sampleSwitch b d).uplink = d.uplink := by
  simp only [sampleSwitch]; split <;> (try split) <;> simp
@[simp] theorem sampleSwitch_offers (b : Bool) (d : Device) : (sampleSwitch b d).offers = d.offers := by
  simp only [sampleSwitch]; split <;> (try split) <;> simp
@[simp] theorem sampleSwitch_mail (b : Bool) (d : Device) : (sampleSwitch b d).mail = d.mail := by
  simp only [sampleSwitch]; split <;> (try split) <;> simp
@[simp] theorem sampleSwitch_emergency (b : Bool) (d : Device) : (sampleSwitch b d).emergency = d.emergency := by
  simp only [sampleSwitch]; split <;> (try split) <;> simp
@[simp] theorem sampleSwitch_sign (b : Bool) (d : Device) : (sampleSwitch b d).sign = d.sign := by
  simp only [sampleSwitch]; split <;> (try split) <;> simp
@[simp] theorem sampleSwitch_items (b : Bool) (d : Device) : (sampleSwitch b d).items = d.items := by
  simp only [sampleSwitch]; split <;> (try split) <;> simp
@[simp] theorem sampleSwitch_backed (b : Bool) (d : Device) : (sampleSwitch b d).backed = d.backed := by
  simp only [sampleSwitch]; split <;> (try split) <;> simp
@[simp] theorem sampleSwitch_radio (b : Bool) (d : Device) : (sampleSwitch b d).radio = d.radio := by
  simp only [sampleSwitch]; split <;> (try split) <;> simp
@[simp] theorem sampleSwitch_ahead (b : Bool) (d : Device) : (sampleSwitch b d).ahead = d.ahead := by
  simp only [sampleSwitch]; split <;> (try split) <;> simp
@[simp] theorem sampleSwitch_draws (b : Bool) (d : Device) : (sampleSwitch b d).draws = d.draws := by
  simp only [sampleSwitch]; split <;> (try split) <;> simp

@[simp] theorem clearFault_pins (d : Device) : (clearFault d).pins = d.pins := by
  unfold clearFault; split <;> rfl
@[simp] theorem clearFault_tariff (d : Device) : (clearFault d).tariff = d.tariff := by
  unfold clearFault; split <;> rfl
@[simp] theorem clearFault_meter (d : Device) : (clearFault d).meter = d.meter := by
  unfold clearFault; split <;> rfl
@[simp] theorem clearFault_store (d : Device) : (clearFault d).store = d.store := by
  unfold clearFault; split <;> rfl
@[simp] theorem clearFault_channel (d : Device) : (clearFault d).channel = d.channel := by
  unfold clearFault; split <;> rfl
@[simp] theorem clearFault_uplink (d : Device) : (clearFault d).uplink = d.uplink := by
  unfold clearFault; split <;> rfl
@[simp] theorem clearFault_offers (d : Device) : (clearFault d).offers = d.offers := by
  unfold clearFault; split <;> rfl
@[simp] theorem clearFault_mail (d : Device) : (clearFault d).mail = d.mail := by
  unfold clearFault; split <;> rfl
@[simp] theorem clearFault_emergency (d : Device) : (clearFault d).emergency = d.emergency := by
  unfold clearFault; split <;> rfl
@[simp] theorem clearFault_sign (d : Device) : (clearFault d).sign = d.sign := by
  unfold clearFault; split <;> rfl
@[simp] theorem clearFault_link (d : Device) : (clearFault d).link = d.link := by
  unfold clearFault; split <;> rfl
@[simp] theorem clearFault_items (d : Device) : (clearFault d).items = d.items := by
  unfold clearFault; split <;> rfl
@[simp] theorem clearFault_backed (d : Device) : (clearFault d).backed = d.backed := by
  unfold clearFault; split <;> rfl
@[simp] theorem clearFault_radio (d : Device) : (clearFault d).radio = d.radio := by
  unfold clearFault; split <;> rfl
@[simp] theorem clearFault_ahead (d : Device) : (clearFault d).ahead = d.ahead := by
  unfold clearFault; split <;> rfl
@[simp] theorem clearFault_draws (d : Device) : (clearFault d).draws = d.draws := by
  unfold clearFault; split <;> rfl

@[simp] theorem meterTo_pins (m : MeterState) (d : Device) : (meterTo m d).pins = d.pins := by
  simp only [meterTo]; split <;> (try split) <;> simp
@[simp] theorem meterTo_tariff (m : MeterState) (d : Device) : (meterTo m d).tariff = d.tariff := by
  simp only [meterTo]; split <;> (try split) <;> simp
@[simp] theorem meterTo_store (m : MeterState) (d : Device) : (meterTo m d).store = d.store := by
  simp only [meterTo]; split <;> (try split) <;> simp
@[simp] theorem meterTo_channel (m : MeterState) (d : Device) : (meterTo m d).channel = d.channel := by
  simp only [meterTo]; split <;> (try split) <;> simp
@[simp] theorem meterTo_offers (m : MeterState) (d : Device) : (meterTo m d).offers = d.offers := by
  simp only [meterTo]; split <;> (try split) <;> simp
@[simp] theorem meterTo_mail (m : MeterState) (d : Device) : (meterTo m d).mail = d.mail := by
  simp only [meterTo]; split <;> (try split) <;> simp
@[simp] theorem meterTo_emergency (m : MeterState) (d : Device) : (meterTo m d).emergency = d.emergency := by
  simp only [meterTo]; split <;> (try split) <;> simp
@[simp] theorem meterTo_sign (m : MeterState) (d : Device) : (meterTo m d).sign = d.sign := by
  simp only [meterTo]; split <;> (try split) <;> simp
@[simp] theorem meterTo_link (m : MeterState) (d : Device) : (meterTo m d).link = d.link := by
  simp only [meterTo]; split <;> (try split) <;> simp
@[simp] theorem meterTo_items (m : MeterState) (d : Device) : (meterTo m d).items = d.items := by
  simp only [meterTo]; split <;> (try split) <;> simp
@[simp] theorem meterTo_backed (m : MeterState) (d : Device) : (meterTo m d).backed = d.backed := by
  simp only [meterTo]; split <;> (try split) <;> simp
@[simp] theorem meterTo_radio (m : MeterState) (d : Device) : (meterTo m d).radio = d.radio := by
  simp only [meterTo]; split <;> (try split) <;> simp
@[simp] theorem meterTo_ahead (m : MeterState) (d : Device) : (meterTo m d).ahead = d.ahead := by
  simp only [meterTo]; split <;> (try split) <;> simp
@[simp] theorem meterTo_draws (m : MeterState) (d : Device) : (meterTo m d).draws = d.draws := by
  simp only [meterTo]; split <;> (try split) <;> simp

@[simp] theorem accrueTrip_pins (p : Nat) (d : Device) : (accrueTrip p d).pins = d.pins := by
  unfold accrueTrip; split <;> (try split) <;> rfl
@[simp] theorem accrueTrip_vehicle (p : Nat) (d : Device) : (accrueTrip p d).vehicle = d.vehicle := by
  unfold accrueTrip; split <;> (try split) <;> rfl
@[simp] theorem accrueTrip_tariff (p : Nat) (d : Device) : (accrueTrip p d).tariff = d.tariff := by
  unfold accrueTrip; split <;> (try split) <;> rfl
@[simp] theorem accrueTrip_store (p : Nat) (d : Device) : (accrueTrip p d).store = d.store := by
  unfold accrueTrip; split <;> (try split) <;> rfl
@[simp] theorem accrueTrip_channel (p : Nat) (d : Device) : (accrueTrip p d).channel = d.channel := by
  unfold accrueTrip; split <;> (try split) <;> rfl
@[simp] theorem accrueTrip_uplink (p : Nat) (d : Device) : (accrueTrip p d).uplink = d.uplink := by
  unfold accrueTrip; split <;> (try split) <;> rfl
@[simp] theorem accrueTrip_offers (p : Nat) (d : Device) : (accrueTrip p d).offers = d.offers := by
  unfold accrueTrip; split <;> (try split) <;> rfl
@[simp] theorem accrueTrip_mail (p : Nat) (d : Device) : (accrueTrip p d).mail = d.mail := by
  unfold accrueTrip; split <;> (try split) <;> rfl
@[simp] theorem accrueTrip_emergency (p : Nat) (d : Device) : (accrueTrip p d).emergency = d.emergency := by
  unfold accrueTrip; split <;> (try split) <;> rfl
@[simp] theorem accrueTrip_sign (p : Nat) (d : Device) : (accrueTrip p d).sign = d.sign := by
  unfold accrueTrip; split <;> (try split) <;> rfl
@[simp] theorem accrueTrip_link (p : Nat) (d : Device) : (accrueTrip p d).link = d.link := by
  unfold accrueTrip; split <;> (try split) <;> rfl
@[simp] theorem accrueTrip_items (p : Nat) (d : Device) : (accrueTrip p d).items = d.items := by
  unfold accrueTrip; split <;> (try split) <;> rfl
@[simp] theorem accrueTrip_backed (p : Nat) (d : Device) : (accrueTrip p d).backed = d.backed := by
  unfold accrueTrip; split <;> (try split) <;> rfl
@[simp] theorem accrueTrip_radio (p : Nat) (d : Device) : (accrueTrip p d).radio = d.radio := by
  unfold accrueTrip; split <;> (try split) <;> rfl
@[simp] theorem accrueTrip_ahead (p : Nat) (d : Device) : (accrueTrip p d).ahead = d.ahead := by
  unfold accrueTrip; split <;> (try split) <;> rfl
@[simp] theorem accrueTrip_draws (p : Nat) (d : Device) : (accrueTrip p d).draws = d.draws := by
  unfold accrueTrip; split <;> (try split) <;> rfl

@[simp] theorem unmeteredEvent_pins (d : Device) : (unmeteredEvent d).pins = d.pins := by
  simp [unmeteredEvent]
@[simp] theorem unmeteredEvent_vehicle (d : Device) : (unmeteredEvent d).vehicle = d.vehicle := by
  simp [unmeteredEvent]
@[simp] theorem unmeteredEvent_tariff (d : Device) : (unmeteredEvent d).tariff = d.tariff := by
  simp [unmeteredEvent]
@[simp] theorem unmeteredEvent_store (d : Device) : (unmeteredEvent d).store = d.store := by
  simp [unmeteredEvent]
@[simp] theorem unmeteredEvent_channel (d : Device) : (unmeteredEvent d).channel = d.channel := by
  simp [unmeteredEvent]
@[simp] theorem unmeteredEvent_offers (d : Device) : (unmeteredEvent d).offers = d.offers := by
  simp [unmeteredEvent]
@[simp] theorem unmeteredEvent_mail (d : Device) : (unmeteredEvent d).mail = d.mail := by
  simp [unmeteredEvent]
@[simp] theorem unmeteredEvent_emergency (d : Device) : (unmeteredEvent d).emergency = d.emergency := by
  simp [unmeteredEvent]
@[simp] theorem unmeteredEvent_sign (d : Device) : (unmeteredEvent d).sign = d.sign := by
  simp [unmeteredEvent]
@[simp] theorem unmeteredEvent_items (d : Device) : (unmeteredEvent d).items = d.items := by
  simp [unmeteredEvent]
@[simp] theorem unmeteredEvent_backed (d : Device) : (unmeteredEvent d).backed = d.backed := by
  simp [unmeteredEvent]
@[simp] theorem unmeteredEvent_radio (d : Device) : (unmeteredEvent d).radio = d.radio := by
  simp [unmeteredEvent]
@[simp] theorem unmeteredEvent_ahead (d : Device) : (unmeteredEvent d).ahead = d.ahead := by
  simp [unmeteredEvent]
@[simp] theorem unmeteredEvent_draws (d : Device) : (unmeteredEvent d).draws = d.draws := by
  simp [unmeteredEvent]

@[simp] theorem occupancyTick_pins (p : Nat) (d : Device) : (occupancyTick p d).pins = d.pins := by
  simp only [occupancyTick]; split <;> (try split) <;> simp
@[simp] theorem occupancyTick_tariff (p : Nat) (d : Device) : (occupancyTick p d).tariff = d.tariff := by
  simp only [occupancyTick]; split <;> (try split) <;> simp
@[simp] theorem occupancyTick_store (p : Nat) (d : Device) : (occupancyTick p d).store = d.store := by
  simp only [occupancyTick]; split <;> (try split) <;> simp
@[simp] theorem occupancyTick_channel (p : Nat) (d : Device) : (occupancyTick p d).channel = d.channel := by
  simp only [occupancyTick]; split <;> (try split) <;> simp
@[simp] theorem occupancyTick_offers (p : Nat) (d : Device) : (occupancyTick p d).offers = d.offers := by
  simp only [occupancyTick]; split <;> (try split) <;> simp
@[simp] theorem occupancyTick_mail (p : Nat) (d : Device) : (occupancyTick p d).mail = d.mail := by
  simp only [occupancyTick]; split <;> (try split) <;> simp
@[simp] theorem occupancyTick_emergency (p : Nat) (d : Device) : (occupancyTick p d).emergency = d.emergency := by
  simp only [occupancyTick]; split <;> (try split) <;> simp
@[simp] theorem occupancyTick_sign (p : Nat) (d : Device) : (occupancyTick p d).sign = d.sign := by
  simp only [occupancyTick]; split <;> (try split) <;> simp
@[simp] theorem occupancyTick_items (p : Nat) (d : Device) : (occupancyTick p d).items = d.items := by
  simp only [occupancyTick]; split <;> (try split) <;> simp
@[simp] theorem occupancyTick_backed (p : Nat) (d : Device) : (occupancyTick p d).backed = d.backed := by
  simp only [occupancyTick]; split <;> (try split) <;> simp
@[simp] theorem occupancyTick_radio (p : Nat) (d : Device) : (occupancyTick p d).radio = d.radio := by
  simp only [occupancyTick]; split <;> (try split) <;> simp
@[simp] theorem occupancyTick_ahead (p : Nat) (d : Device) : (occupancyTick p d).ahead = d.ahead := by
  simp only [occupancyTick]; split <;> (try split) <;> simp
@[simp] theorem occupancyTick_draws (p : Nat) (d : Device) : (occupancyTick p d).draws = d.draws := by
  simp only [occupancyTick]; split <;> (try split) <;> simp

@[simp] theorem meterTick_pins (p : Nat) (d : Device) : (meterTick p d).pins = d.pins := by
  unfold meterTick; split <;> simp
@[simp] theorem meterTick_store (p : Nat) (d : Device) : (meterTick p d).store = d.store := by
  unfold meterTick; split <;> simp
@[simp] theorem meterTick_channel (p : Nat) (d : Device) : (meterTick p d).channel = d.channel := by
  unfold meterTick; split <;> simp
@[simp] theorem meterTick_offers (p : Nat) (d : Device) : (meterTick p d).offers = d.offers := by
  unfold meterTick; split <;> simp
@[simp] theorem meterTick_mail (p : Nat) (d : Device) : (meterTick p d).mail = d.mail := by
  unfold meterTick; split <;> simp
@[simp] theorem meterTick_emergency (p : Nat) (d : Device) : (meterTick p d).emergency = d.emergency := by
  unfold meterTick; split <;> simp
@[simp] theorem meterTick_sign (p : Nat) (d : Device) : (meterTick p d).sign = d.sign := by
  unfold meterTick; split <;> simp
@[simp] theorem meterTick_items (p : Nat) (d : Device) : (meterTick p d).items = d.items := by
  unfold meterTick; split <;> simp
@[simp] theorem meterTick_backed (p : Nat) (d : Device) : (meterTick p d).backed = d.backed := by
  unfold meterTick; split <;> simp
@[simp] theorem meterTick_radio (p : Nat) (d : Device) : (meterTick p d).radio = d.radio := by
  unfold meterTick; split <;> simp
@[simp] theorem meterTick_ahead (p : Nat) (d : Device) : (meterTick p d).ahead = d.ahead := by
  unfold meterTick; split <;> simp
@[simp] theorem meterTick_draws (p : Nat) (d : Device) : (meterTick p d).draws = d.draws := by
  unfold meterTick; split <;> simp

@[simp] theorem startTrip_pins (n : Nat) (t : Tariff) (d : Device) : (startTrip n t d).pins = d.pins := by
  simp only [startTrip]; split <;> simp
@[simp] theorem startTrip_store (n : Nat) (t : Tariff) (d : Device) : (startTrip n t d).store = d.store := by
  simp only [startTrip]; split <;> simp
@[simp] theorem startTrip_channel (n : Nat) (t : Tariff) (d : Device) : (startTrip n t d).channel = d.channel := by
  simp only [startTrip]; split <;> simp
@[simp] theorem startTrip_emergency (n : Nat) (t : Tariff) (d : Device) : (startTrip n t d).emergency = d.emergency := by
  simp only [startTrip]; split <;> simp
@[simp] theorem startTrip_items (n : Nat) (t : Tariff) (d : Device) : (startTrip n t d).items = d.items := by
  simp only [startTrip]; split <;> simp
@[simp] theorem startTrip_backed (n : Nat) (t : Tariff) (d : Device) : (startTrip n t d).backed = d.backed := by
  simp only [startTrip]; split <;> simp
@[simp] theorem startTrip_radio (n : Nat) (t : Tariff) (d : Device) : (startTrip n t d).radio = d.radio := by
  simp only [startTrip]; split <;> simp
@[simp] theorem startTrip_ahead (n : Nat) (t : Tariff) (d : Device) : (startTrip n t d).ahead = d.ahead := by
  simp only [startTrip]; split <;> simp
@[simp] theorem startTrip_draws (n : Nat) (t : Tariff) (d : Device) : (startTrip n t d).draws = d.draws := by
  simp only [startTrip]; split <;> simp

@[simp] theorem clearTrip_pins (t : Trip) (d : Device) : (clearTrip t d).2.pins = d.pins := by
  simp [clearTrip]
@[simp] theorem clearTrip_channel (t : Trip) (d : Device) : (clearTrip t d).2.channel = d.channel := by
  simp [clearTrip]
@[simp] theorem clearTrip_emergency (t : Trip) (d : Device) : (clearTrip t d).2.emergency = d.emergency := by
  simp [clearTrip]
@[simp] theorem clearTrip_items (t : Trip) (d : Device) : (clearTrip t d).2.items = d.items := by
  simp [clearTrip]
@[simp] theorem clearTrip_backed (t : Trip) (d : Device) : (clearTrip t d).2.backed = d.backed := by
  simp [clearTrip]
@[simp] theorem clearTrip_radio (t : Trip) (d : Device) : (clearTrip t d).2.radio = d.radio := by
  simp [clearTrip]
@[simp] theorem clearTrip_ahead (t : Trip) (d : Device) : (clearTrip t d).2.ahead = d.ahead := by
  simp [clearTrip]
@[simp] theorem clearTrip_draws (t : Trip) (d : Device) : (clearTrip t d).2.draws = d.draws := by
  simp [clearTrip]

@[simp] theorem closeShift_pins (s : Shift) (d : Device) : (closeShift s d).2.pins = d.pins := by
  simp [closeShift]
@[simp] theorem closeShift_channel (s : Shift) (d : Device) : (closeShift s d).2.channel = d.channel := by
  simp [closeShift]
@[simp] theorem closeShift_emergency (s : Shift) (d : Device) : (closeShift s d).2.emergency = d.emergency := by
  simp [closeShift]
@[simp] theorem closeShift_items (s : Shift) (d : Device) : (closeShift s d).2.items = d.items := by
  simp [closeShift]
@[simp] theorem closeShift_backed (s : Shift) (d : Device) : (closeShift s d).2.backed = d.backed := by
  simp [closeShift]
@[simp] theorem closeShift_radio (s : Shift) (d : Device) : (closeShift s d).2.radio = d.radio := by
  simp [closeShift]
@[simp] theorem closeShift_ahead (s : Shift) (d : Device) : (closeShift s d).2.ahead = d.ahead := by
  simp [closeShift]
@[simp] theorem closeShift_draws (s : Shift) (d : Device) : (closeShift s d).2.draws = d.draws := by
  simp [closeShift]

@[simp] theorem openShift_pins (d : Device) : (openShift d).pins = d.pins := by
  simp [openShift]
@[simp] theorem openShift_tariff (d : Device) : (openShift d).tariff = d.tariff := by
  simp [openShift]
@[simp] theorem openShift_store (d : Device) : (openShift d).store = d.store := by
  simp [openShift]
@[simp] theorem openShift_channel (d : Device) : (openShift d).channel = d.channel := by
  simp [openShift]
@[simp] theorem openShift_offers (d : Device) : (openShift d).offers = d.offers := by
  simp [openShift]
@[simp] theorem openShift_mail (d : Device) : (openShift d).mail = d.mail := by
  simp [openShift]
@[simp] theorem openShift_emergency (d : Device) : (openShift d).emergency = d.emergency := by
  simp [openShift]
@[simp] theorem openShift_link (d : Device) : (openShift d).link = d.link := by
  simp [openShift]
@[simp] theorem openShift_items (d : Device) : (openShift d).items = d.items := by
  simp [openShift]
@[simp] theorem openShift_backed (d : Device) : (openShift d).backed = d.backed := by
  simp [openShift]
@[simp] theorem openShift_radio (d : Device) : (openShift d).radio = d.radio := by
  simp [openShift]
@[simp] theorem openShift_ahead (d : Device) : (openShift d).ahead = d.ahead := by
  simp [openShift]
@[simp] theorem openShift_draws (d : Device) : (openShift d).draws = d.draws := by
  simp [openShift]

@[simp] theorem stopTrip_pins (d : Device) : (stopTrip d).pins = d.pins := by
  simp [stopTrip]
@[simp] theorem stopTrip_tariff (d : Device) : (stopTrip d).tariff = d.tariff := by
  simp [stopTrip]
@[simp] theorem stopTrip_store (d : Device) : (stopTrip d).store = d.store := by
  simp [stopTrip]
@[simp] theorem stopTrip_channel (d : Device) : (stopTrip d).channel = d.channel := by
  simp [stopTrip]
@[simp] theorem stopTrip_offers (d : Device) : (stopTrip d).offers = d.offers := by
  simp [stopTrip]
@[simp] theorem stopTrip_mail (d : Device) : (stopTrip d).mail = d.mail := by
  simp [stopTrip]
@[simp] theorem stopTrip_emergency (d : Device) : (stopTrip d).emergency = d.emergency := by
  simp [stopTrip]
@[simp] theorem stopTrip_link (d : Device) : (stopTrip d).link = d.link := by
  simp [stopTrip]
@[simp] theorem stopTrip_items (d : Device) : (stopTrip d).items = d.items := by
  simp [stopTrip]
@[simp] theorem stopTrip_backed (d : Device) : (stopTrip d).backed = d.backed := by
  simp [stopTrip]
@[simp] theorem stopTrip_radio (d : Device) : (stopTrip d).radio = d.radio := by
  simp [stopTrip]
@[simp] theorem stopTrip_ahead (d : Device) : (stopTrip d).ahead = d.ahead := by
  simp [stopTrip]
@[simp] theorem stopTrip_draws (d : Device) : (stopTrip d).draws = d.draws := by
  simp [stopTrip]

@[simp] theorem resumeTrip_pins (d : Device) : (resumeTrip d).pins = d.pins := by
  simp [resumeTrip]
@[simp] theorem resumeTrip_tariff (d : Device) : (resumeTrip d).tariff = d.tariff := by
  simp [resumeTrip]
@[simp] theorem resumeTrip_store (d : Device) : (resumeTrip d).store = d.store := by
  simp [resumeTrip]
@[simp] theorem resumeTrip_channel (d : Device) : (resumeTrip d).channel = d.channel := by
  simp [resumeTrip]
@[simp] theorem resumeTrip_offers (d : Device) : (resumeTrip d).offers = d.offers := by
  simp [resumeTrip]
@[simp] theorem resumeTrip_mail (d : Device) : (resumeTrip d).mail = d.mail := by
  simp [resumeTrip]
@[simp] theorem resumeTrip_emergency (d : Device) : (resumeTrip d).emergency = d.emergency := by
  simp [resumeTrip]
@[simp] theorem resumeTrip_link (d : Device) : (resumeTrip d).link = d.link := by
  simp [resumeTrip]
@[simp] theorem resumeTrip_items (d : Device) : (resumeTrip d).items = d.items := by
  simp [resumeTrip]
@[simp] theorem resumeTrip_backed (d : Device) : (resumeTrip d).backed = d.backed := by
  simp [resumeTrip]
@[simp] theorem resumeTrip_radio (d : Device) : (resumeTrip d).radio = d.radio := by
  simp [resumeTrip]
@[simp] theorem resumeTrip_ahead (d : Device) : (resumeTrip d).ahead = d.ahead := by
  simp [resumeTrip]
@[simp] theorem resumeTrip_draws (d : Device) : (resumeTrip d).draws = d.draws := by
  simp [resumeTrip]

/-! ### The Mailbox -/

@[simp] theorem setBuffer_pins (b : BufferId) (p : Option Partial) (d : Device) : (setBuffer b p d).pins = d.pins := by
  unfold setBuffer; split <;> rfl
@[simp] theorem setBuffer_vehicle (b : BufferId) (p : Option Partial) (d : Device) : (setBuffer b p d).vehicle = d.vehicle := by
  unfold setBuffer; split <;> rfl
@[simp] theorem setBuffer_tariff (b : BufferId) (p : Option Partial) (d : Device) : (setBuffer b p d).tariff = d.tariff := by
  unfold setBuffer; split <;> rfl
@[simp] theorem setBuffer_meter (b : BufferId) (p : Option Partial) (d : Device) : (setBuffer b p d).meter = d.meter := by
  unfold setBuffer; split <;> rfl
@[simp] theorem setBuffer_store (b : BufferId) (p : Option Partial) (d : Device) : (setBuffer b p d).store = d.store := by
  unfold setBuffer; split <;> rfl
@[simp] theorem setBuffer_channel (b : BufferId) (p : Option Partial) (d : Device) : (setBuffer b p d).channel = d.channel := by
  unfold setBuffer; split <;> rfl
@[simp] theorem setBuffer_uplink (b : BufferId) (p : Option Partial) (d : Device) : (setBuffer b p d).uplink = d.uplink := by
  unfold setBuffer; split <;> rfl
@[simp] theorem setBuffer_offers (b : BufferId) (p : Option Partial) (d : Device) : (setBuffer b p d).offers = d.offers := by
  unfold setBuffer; split <;> rfl
@[simp] theorem setBuffer_emergency (b : BufferId) (p : Option Partial) (d : Device) : (setBuffer b p d).emergency = d.emergency := by
  unfold setBuffer; split <;> rfl
@[simp] theorem setBuffer_sign (b : BufferId) (p : Option Partial) (d : Device) : (setBuffer b p d).sign = d.sign := by
  unfold setBuffer; split <;> rfl
@[simp] theorem setBuffer_link (b : BufferId) (p : Option Partial) (d : Device) : (setBuffer b p d).link = d.link := by
  unfold setBuffer; split <;> rfl
@[simp] theorem setBuffer_items (b : BufferId) (p : Option Partial) (d : Device) : (setBuffer b p d).items = d.items := by
  unfold setBuffer; split <;> rfl
@[simp] theorem setBuffer_backed (b : BufferId) (p : Option Partial) (d : Device) : (setBuffer b p d).backed = d.backed := by
  unfold setBuffer; split <;> rfl
@[simp] theorem setBuffer_radio (b : BufferId) (p : Option Partial) (d : Device) : (setBuffer b p d).radio = d.radio := by
  unfold setBuffer; split <;> rfl
@[simp] theorem setBuffer_ahead (b : BufferId) (p : Option Partial) (d : Device) : (setBuffer b p d).ahead = d.ahead := by
  unfold setBuffer; split <;> rfl
@[simp] theorem setBuffer_draws (b : BufferId) (p : Option Partial) (d : Device) : (setBuffer b p d).draws = d.draws := by
  unfold setBuffer; split <;> rfl

@[simp] theorem dropOverdueBuffer_pins (b : BufferId) (d : Device) : (dropOverdueBuffer b d).pins = d.pins := by
  unfold dropOverdueBuffer; split <;> rfl
@[simp] theorem dropOverdueBuffer_vehicle (b : BufferId) (d : Device) : (dropOverdueBuffer b d).vehicle = d.vehicle := by
  unfold dropOverdueBuffer; split <;> rfl
@[simp] theorem dropOverdueBuffer_tariff (b : BufferId) (d : Device) : (dropOverdueBuffer b d).tariff = d.tariff := by
  unfold dropOverdueBuffer; split <;> rfl
@[simp] theorem dropOverdueBuffer_meter (b : BufferId) (d : Device) : (dropOverdueBuffer b d).meter = d.meter := by
  unfold dropOverdueBuffer; split <;> rfl
@[simp] theorem dropOverdueBuffer_store (b : BufferId) (d : Device) : (dropOverdueBuffer b d).store = d.store := by
  unfold dropOverdueBuffer; split <;> rfl
@[simp] theorem dropOverdueBuffer_channel (b : BufferId) (d : Device) : (dropOverdueBuffer b d).channel = d.channel := by
  unfold dropOverdueBuffer; split <;> rfl
@[simp] theorem dropOverdueBuffer_uplink (b : BufferId) (d : Device) : (dropOverdueBuffer b d).uplink = d.uplink := by
  unfold dropOverdueBuffer; split <;> rfl
@[simp] theorem dropOverdueBuffer_offers (b : BufferId) (d : Device) : (dropOverdueBuffer b d).offers = d.offers := by
  unfold dropOverdueBuffer; split <;> rfl
@[simp] theorem dropOverdueBuffer_emergency (b : BufferId) (d : Device) : (dropOverdueBuffer b d).emergency = d.emergency := by
  unfold dropOverdueBuffer; split <;> rfl
@[simp] theorem dropOverdueBuffer_sign (b : BufferId) (d : Device) : (dropOverdueBuffer b d).sign = d.sign := by
  unfold dropOverdueBuffer; split <;> rfl
@[simp] theorem dropOverdueBuffer_link (b : BufferId) (d : Device) : (dropOverdueBuffer b d).link = d.link := by
  unfold dropOverdueBuffer; split <;> rfl
@[simp] theorem dropOverdueBuffer_items (b : BufferId) (d : Device) : (dropOverdueBuffer b d).items = d.items := by
  unfold dropOverdueBuffer; split <;> rfl
@[simp] theorem dropOverdueBuffer_backed (b : BufferId) (d : Device) : (dropOverdueBuffer b d).backed = d.backed := by
  unfold dropOverdueBuffer; split <;> rfl
@[simp] theorem dropOverdueBuffer_radio (b : BufferId) (d : Device) : (dropOverdueBuffer b d).radio = d.radio := by
  unfold dropOverdueBuffer; split <;> rfl
@[simp] theorem dropOverdueBuffer_ahead (b : BufferId) (d : Device) : (dropOverdueBuffer b d).ahead = d.ahead := by
  unfold dropOverdueBuffer; split <;> rfl
@[simp] theorem dropOverdueBuffer_draws (b : BufferId) (d : Device) : (dropOverdueBuffer b d).draws = d.draws := by
  unfold dropOverdueBuffer; split <;> rfl

@[simp] theorem appendMail_pins (m : Mail) (d : Device) : (appendMail m d).pins = d.pins := by
  simp [appendMail]
@[simp] theorem appendMail_vehicle (m : Mail) (d : Device) : (appendMail m d).vehicle = d.vehicle := by
  simp [appendMail]
@[simp] theorem appendMail_tariff (m : Mail) (d : Device) : (appendMail m d).tariff = d.tariff := by
  simp [appendMail]
@[simp] theorem appendMail_meter (m : Mail) (d : Device) : (appendMail m d).meter = d.meter := by
  simp [appendMail]
@[simp] theorem appendMail_store (m : Mail) (d : Device) : (appendMail m d).store = d.store := by
  simp [appendMail]
@[simp] theorem appendMail_channel (m : Mail) (d : Device) : (appendMail m d).channel = d.channel := by
  simp [appendMail]
@[simp] theorem appendMail_uplink (m : Mail) (d : Device) : (appendMail m d).uplink = d.uplink := by
  simp [appendMail]
@[simp] theorem appendMail_offers (m : Mail) (d : Device) : (appendMail m d).offers = d.offers := by
  simp [appendMail]
@[simp] theorem appendMail_emergency (m : Mail) (d : Device) : (appendMail m d).emergency = d.emergency := by
  simp [appendMail]
@[simp] theorem appendMail_sign (m : Mail) (d : Device) : (appendMail m d).sign = d.sign := by
  simp [appendMail]
@[simp] theorem appendMail_items (m : Mail) (d : Device) : (appendMail m d).items = d.items := by
  simp [appendMail]
@[simp] theorem appendMail_backed (m : Mail) (d : Device) : (appendMail m d).backed = d.backed := by
  simp [appendMail]
@[simp] theorem appendMail_radio (m : Mail) (d : Device) : (appendMail m d).radio = d.radio := by
  simp [appendMail]
@[simp] theorem appendMail_ahead (m : Mail) (d : Device) : (appendMail m d).ahead = d.ahead := by
  simp [appendMail]
@[simp] theorem appendMail_draws (m : Mail) (d : Device) : (appendMail m d).draws = d.draws := by
  simp [appendMail]

@[simp] theorem takeMail_pins (m : Mail) (d : Device) : (takeMail m d).pins = d.pins := by
  unfold takeMail; split <;> (try split) <;> simp
@[simp] theorem takeMail_vehicle (m : Mail) (d : Device) : (takeMail m d).vehicle = d.vehicle := by
  unfold takeMail; split <;> (try split) <;> simp
@[simp] theorem takeMail_tariff (m : Mail) (d : Device) : (takeMail m d).tariff = d.tariff := by
  unfold takeMail; split <;> (try split) <;> simp
@[simp] theorem takeMail_meter (m : Mail) (d : Device) : (takeMail m d).meter = d.meter := by
  unfold takeMail; split <;> (try split) <;> simp
@[simp] theorem takeMail_store (m : Mail) (d : Device) : (takeMail m d).store = d.store := by
  unfold takeMail; split <;> (try split) <;> simp
@[simp] theorem takeMail_channel (m : Mail) (d : Device) : (takeMail m d).channel = d.channel := by
  unfold takeMail; split <;> (try split) <;> simp
@[simp] theorem takeMail_uplink (m : Mail) (d : Device) : (takeMail m d).uplink = d.uplink := by
  unfold takeMail; split <;> (try split) <;> simp
@[simp] theorem takeMail_offers (m : Mail) (d : Device) : (takeMail m d).offers = d.offers := by
  unfold takeMail; split <;> (try split) <;> simp
@[simp] theorem takeMail_emergency (m : Mail) (d : Device) : (takeMail m d).emergency = d.emergency := by
  unfold takeMail; split <;> (try split) <;> simp
@[simp] theorem takeMail_sign (m : Mail) (d : Device) : (takeMail m d).sign = d.sign := by
  unfold takeMail; split <;> (try split) <;> simp
@[simp] theorem takeMail_items (m : Mail) (d : Device) : (takeMail m d).items = d.items := by
  unfold takeMail; split <;> (try split) <;> simp
@[simp] theorem takeMail_backed (m : Mail) (d : Device) : (takeMail m d).backed = d.backed := by
  unfold takeMail; split <;> (try split) <;> simp
@[simp] theorem takeMail_radio (m : Mail) (d : Device) : (takeMail m d).radio = d.radio := by
  unfold takeMail; split <;> (try split) <;> simp
@[simp] theorem takeMail_ahead (m : Mail) (d : Device) : (takeMail m d).ahead = d.ahead := by
  unfold takeMail; split <;> (try split) <;> simp
@[simp] theorem takeMail_draws (m : Mail) (d : Device) : (takeMail m d).draws = d.draws := by
  unfold takeMail; split <;> (try split) <;> simp

@[simp] theorem completeMail_pins (n : Nat) (c : MsgClass) (ps : List Byte) (k : Nat) (d : Device) : (completeMail n c ps k d).pins = d.pins := by
  simp only [completeMail]; split <;> simp
@[simp] theorem completeMail_vehicle (n : Nat) (c : MsgClass) (ps : List Byte) (k : Nat) (d : Device) : (completeMail n c ps k d).vehicle = d.vehicle := by
  simp only [completeMail]; split <;> simp
@[simp] theorem completeMail_tariff (n : Nat) (c : MsgClass) (ps : List Byte) (k : Nat) (d : Device) : (completeMail n c ps k d).tariff = d.tariff := by
  simp only [completeMail]; split <;> simp
@[simp] theorem completeMail_meter (n : Nat) (c : MsgClass) (ps : List Byte) (k : Nat) (d : Device) : (completeMail n c ps k d).meter = d.meter := by
  simp only [completeMail]; split <;> simp
@[simp] theorem completeMail_store (n : Nat) (c : MsgClass) (ps : List Byte) (k : Nat) (d : Device) : (completeMail n c ps k d).store = d.store := by
  simp only [completeMail]; split <;> simp
@[simp] theorem completeMail_channel (n : Nat) (c : MsgClass) (ps : List Byte) (k : Nat) (d : Device) : (completeMail n c ps k d).channel = d.channel := by
  simp only [completeMail]; split <;> simp
@[simp] theorem completeMail_uplink (n : Nat) (c : MsgClass) (ps : List Byte) (k : Nat) (d : Device) : (completeMail n c ps k d).uplink = d.uplink := by
  simp only [completeMail]; split <;> simp
@[simp] theorem completeMail_offers (n : Nat) (c : MsgClass) (ps : List Byte) (k : Nat) (d : Device) : (completeMail n c ps k d).offers = d.offers := by
  simp only [completeMail]; split <;> simp
@[simp] theorem completeMail_emergency (n : Nat) (c : MsgClass) (ps : List Byte) (k : Nat) (d : Device) : (completeMail n c ps k d).emergency = d.emergency := by
  simp only [completeMail]; split <;> simp
@[simp] theorem completeMail_sign (n : Nat) (c : MsgClass) (ps : List Byte) (k : Nat) (d : Device) : (completeMail n c ps k d).sign = d.sign := by
  simp only [completeMail]; split <;> simp
@[simp] theorem completeMail_items (n : Nat) (c : MsgClass) (ps : List Byte) (k : Nat) (d : Device) : (completeMail n c ps k d).items = d.items := by
  simp only [completeMail]; split <;> simp
@[simp] theorem completeMail_backed (n : Nat) (c : MsgClass) (ps : List Byte) (k : Nat) (d : Device) : (completeMail n c ps k d).backed = d.backed := by
  simp only [completeMail]; split <;> simp
@[simp] theorem completeMail_radio (n : Nat) (c : MsgClass) (ps : List Byte) (k : Nat) (d : Device) : (completeMail n c ps k d).radio = d.radio := by
  simp only [completeMail]; split <;> simp
@[simp] theorem completeMail_ahead (n : Nat) (c : MsgClass) (ps : List Byte) (k : Nat) (d : Device) : (completeMail n c ps k d).ahead = d.ahead := by
  simp only [completeMail]; split <;> simp
@[simp] theorem completeMail_draws (n : Nat) (c : MsgClass) (ps : List Byte) (k : Nat) (d : Device) : (completeMail n c ps k d).draws = d.draws := by
  simp only [completeMail]; split <;> simp

@[simp] theorem extendBuffer_pins (b : BufferId) (h : Partial) (p : TextPart) (c : MsgClass) (d : Device) : (extendBuffer b h p c d).pins = d.pins := by
  simp only [extendBuffer]; split <;> (try split) <;> simp
@[simp] theorem extendBuffer_vehicle (b : BufferId) (h : Partial) (p : TextPart) (c : MsgClass) (d : Device) : (extendBuffer b h p c d).vehicle = d.vehicle := by
  simp only [extendBuffer]; split <;> (try split) <;> simp
@[simp] theorem extendBuffer_tariff (b : BufferId) (h : Partial) (p : TextPart) (c : MsgClass) (d : Device) : (extendBuffer b h p c d).tariff = d.tariff := by
  simp only [extendBuffer]; split <;> (try split) <;> simp
@[simp] theorem extendBuffer_meter (b : BufferId) (h : Partial) (p : TextPart) (c : MsgClass) (d : Device) : (extendBuffer b h p c d).meter = d.meter := by
  simp only [extendBuffer]; split <;> (try split) <;> simp
@[simp] theorem extendBuffer_store (b : BufferId) (h : Partial) (p : TextPart) (c : MsgClass) (d : Device) : (extendBuffer b h p c d).store = d.store := by
  simp only [extendBuffer]; split <;> (try split) <;> simp
@[simp] theorem extendBuffer_channel (b : BufferId) (h : Partial) (p : TextPart) (c : MsgClass) (d : Device) : (extendBuffer b h p c d).channel = d.channel := by
  simp only [extendBuffer]; split <;> (try split) <;> simp
@[simp] theorem extendBuffer_uplink (b : BufferId) (h : Partial) (p : TextPart) (c : MsgClass) (d : Device) : (extendBuffer b h p c d).uplink = d.uplink := by
  simp only [extendBuffer]; split <;> (try split) <;> simp
@[simp] theorem extendBuffer_offers (b : BufferId) (h : Partial) (p : TextPart) (c : MsgClass) (d : Device) : (extendBuffer b h p c d).offers = d.offers := by
  simp only [extendBuffer]; split <;> (try split) <;> simp
@[simp] theorem extendBuffer_emergency (b : BufferId) (h : Partial) (p : TextPart) (c : MsgClass) (d : Device) : (extendBuffer b h p c d).emergency = d.emergency := by
  simp only [extendBuffer]; split <;> (try split) <;> simp
@[simp] theorem extendBuffer_sign (b : BufferId) (h : Partial) (p : TextPart) (c : MsgClass) (d : Device) : (extendBuffer b h p c d).sign = d.sign := by
  simp only [extendBuffer]; split <;> (try split) <;> simp
@[simp] theorem extendBuffer_items (b : BufferId) (h : Partial) (p : TextPart) (c : MsgClass) (d : Device) : (extendBuffer b h p c d).items = d.items := by
  simp only [extendBuffer]; split <;> (try split) <;> simp
@[simp] theorem extendBuffer_backed (b : BufferId) (h : Partial) (p : TextPart) (c : MsgClass) (d : Device) : (extendBuffer b h p c d).backed = d.backed := by
  simp only [extendBuffer]; split <;> (try split) <;> simp
@[simp] theorem extendBuffer_radio (b : BufferId) (h : Partial) (p : TextPart) (c : MsgClass) (d : Device) : (extendBuffer b h p c d).radio = d.radio := by
  simp only [extendBuffer]; split <;> (try split) <;> simp
@[simp] theorem extendBuffer_ahead (b : BufferId) (h : Partial) (p : TextPart) (c : MsgClass) (d : Device) : (extendBuffer b h p c d).ahead = d.ahead := by
  simp only [extendBuffer]; split <;> (try split) <;> simp
@[simp] theorem extendBuffer_draws (b : BufferId) (h : Partial) (p : TextPart) (c : MsgClass) (d : Device) : (extendBuffer b h p c d).draws = d.draws := by
  simp only [extendBuffer]; split <;> (try split) <;> simp

@[simp] theorem openBuffer_pins (b : BufferId) (p : TextPart) (c : MsgClass) (d : Device) : (openBuffer b p c d).pins = d.pins := by
  simp [openBuffer]
@[simp] theorem openBuffer_vehicle (b : BufferId) (p : TextPart) (c : MsgClass) (d : Device) : (openBuffer b p c d).vehicle = d.vehicle := by
  simp [openBuffer]
@[simp] theorem openBuffer_tariff (b : BufferId) (p : TextPart) (c : MsgClass) (d : Device) : (openBuffer b p c d).tariff = d.tariff := by
  simp [openBuffer]
@[simp] theorem openBuffer_meter (b : BufferId) (p : TextPart) (c : MsgClass) (d : Device) : (openBuffer b p c d).meter = d.meter := by
  simp [openBuffer]
@[simp] theorem openBuffer_store (b : BufferId) (p : TextPart) (c : MsgClass) (d : Device) : (openBuffer b p c d).store = d.store := by
  simp [openBuffer]
@[simp] theorem openBuffer_channel (b : BufferId) (p : TextPart) (c : MsgClass) (d : Device) : (openBuffer b p c d).channel = d.channel := by
  simp [openBuffer]
@[simp] theorem openBuffer_uplink (b : BufferId) (p : TextPart) (c : MsgClass) (d : Device) : (openBuffer b p c d).uplink = d.uplink := by
  simp [openBuffer]
@[simp] theorem openBuffer_offers (b : BufferId) (p : TextPart) (c : MsgClass) (d : Device) : (openBuffer b p c d).offers = d.offers := by
  simp [openBuffer]
@[simp] theorem openBuffer_emergency (b : BufferId) (p : TextPart) (c : MsgClass) (d : Device) : (openBuffer b p c d).emergency = d.emergency := by
  simp [openBuffer]
@[simp] theorem openBuffer_sign (b : BufferId) (p : TextPart) (c : MsgClass) (d : Device) : (openBuffer b p c d).sign = d.sign := by
  simp [openBuffer]
@[simp] theorem openBuffer_items (b : BufferId) (p : TextPart) (c : MsgClass) (d : Device) : (openBuffer b p c d).items = d.items := by
  simp [openBuffer]
@[simp] theorem openBuffer_backed (b : BufferId) (p : TextPart) (c : MsgClass) (d : Device) : (openBuffer b p c d).backed = d.backed := by
  simp [openBuffer]
@[simp] theorem openBuffer_radio (b : BufferId) (p : TextPart) (c : MsgClass) (d : Device) : (openBuffer b p c d).radio = d.radio := by
  simp [openBuffer]
@[simp] theorem openBuffer_ahead (b : BufferId) (p : TextPart) (c : MsgClass) (d : Device) : (openBuffer b p c d).ahead = d.ahead := by
  simp [openBuffer]
@[simp] theorem openBuffer_draws (b : BufferId) (p : TextPart) (c : MsgClass) (d : Device) : (openBuffer b p c d).draws = d.draws := by
  simp [openBuffer]

@[simp] theorem takePart_pins (p : TextPart) (d : Device) : (takePart p d).pins = d.pins := by
  simp only [takePart]; split <;> (try split) <;> (try split) <;> (try split) <;> simp
@[simp] theorem takePart_vehicle (p : TextPart) (d : Device) : (takePart p d).vehicle = d.vehicle := by
  simp only [takePart]; split <;> (try split) <;> (try split) <;> (try split) <;> simp
@[simp] theorem takePart_tariff (p : TextPart) (d : Device) : (takePart p d).tariff = d.tariff := by
  simp only [takePart]; split <;> (try split) <;> (try split) <;> (try split) <;> simp
@[simp] theorem takePart_meter (p : TextPart) (d : Device) : (takePart p d).meter = d.meter := by
  simp only [takePart]; split <;> (try split) <;> (try split) <;> (try split) <;> simp
@[simp] theorem takePart_store (p : TextPart) (d : Device) : (takePart p d).store = d.store := by
  simp only [takePart]; split <;> (try split) <;> (try split) <;> (try split) <;> simp
@[simp] theorem takePart_channel (p : TextPart) (d : Device) : (takePart p d).channel = d.channel := by
  simp only [takePart]; split <;> (try split) <;> (try split) <;> (try split) <;> simp
@[simp] theorem takePart_uplink (p : TextPart) (d : Device) : (takePart p d).uplink = d.uplink := by
  simp only [takePart]; split <;> (try split) <;> (try split) <;> (try split) <;> simp
@[simp] theorem takePart_offers (p : TextPart) (d : Device) : (takePart p d).offers = d.offers := by
  simp only [takePart]; split <;> (try split) <;> (try split) <;> (try split) <;> simp
@[simp] theorem takePart_emergency (p : TextPart) (d : Device) : (takePart p d).emergency = d.emergency := by
  simp only [takePart]; split <;> (try split) <;> (try split) <;> (try split) <;> simp
@[simp] theorem takePart_sign (p : TextPart) (d : Device) : (takePart p d).sign = d.sign := by
  simp only [takePart]; split <;> (try split) <;> (try split) <;> (try split) <;> simp
@[simp] theorem takePart_items (p : TextPart) (d : Device) : (takePart p d).items = d.items := by
  simp only [takePart]; split <;> (try split) <;> (try split) <;> (try split) <;> simp
@[simp] theorem takePart_backed (p : TextPart) (d : Device) : (takePart p d).backed = d.backed := by
  simp only [takePart]; split <;> (try split) <;> (try split) <;> (try split) <;> simp
@[simp] theorem takePart_radio (p : TextPart) (d : Device) : (takePart p d).radio = d.radio := by
  simp only [takePart]; split <;> (try split) <;> (try split) <;> (try split) <;> simp
@[simp] theorem takePart_ahead (p : TextPart) (d : Device) : (takePart p d).ahead = d.ahead := by
  simp only [takePart]; split <;> (try split) <;> (try split) <;> (try split) <;> simp
@[simp] theorem takePart_draws (p : TextPart) (d : Device) : (takePart p d).draws = d.draws := by
  simp only [takePart]; split <;> (try split) <;> (try split) <;> (try split) <;> simp

@[simp] theorem receiptEnds_pins (n : Nat) (b : Bool) (d : Device) : (receiptEnds n b d).pins = d.pins := by
  simp [receiptEnds]
@[simp] theorem receiptEnds_vehicle (n : Nat) (b : Bool) (d : Device) : (receiptEnds n b d).vehicle = d.vehicle := by
  simp [receiptEnds]
@[simp] theorem receiptEnds_tariff (n : Nat) (b : Bool) (d : Device) : (receiptEnds n b d).tariff = d.tariff := by
  simp [receiptEnds]
@[simp] theorem receiptEnds_meter (n : Nat) (b : Bool) (d : Device) : (receiptEnds n b d).meter = d.meter := by
  simp [receiptEnds]
@[simp] theorem receiptEnds_store (n : Nat) (b : Bool) (d : Device) : (receiptEnds n b d).store = d.store := by
  simp [receiptEnds]
@[simp] theorem receiptEnds_channel (n : Nat) (b : Bool) (d : Device) : (receiptEnds n b d).channel = d.channel := by
  simp [receiptEnds]
@[simp] theorem receiptEnds_uplink (n : Nat) (b : Bool) (d : Device) : (receiptEnds n b d).uplink = d.uplink := by
  simp [receiptEnds]
@[simp] theorem receiptEnds_offers (n : Nat) (b : Bool) (d : Device) : (receiptEnds n b d).offers = d.offers := by
  simp [receiptEnds]
@[simp] theorem receiptEnds_emergency (n : Nat) (b : Bool) (d : Device) : (receiptEnds n b d).emergency = d.emergency := by
  simp [receiptEnds]
@[simp] theorem receiptEnds_sign (n : Nat) (b : Bool) (d : Device) : (receiptEnds n b d).sign = d.sign := by
  simp [receiptEnds]
@[simp] theorem receiptEnds_link (n : Nat) (b : Bool) (d : Device) : (receiptEnds n b d).link = d.link := by
  simp [receiptEnds]
@[simp] theorem receiptEnds_items (n : Nat) (b : Bool) (d : Device) : (receiptEnds n b d).items = d.items := by
  simp [receiptEnds]
@[simp] theorem receiptEnds_backed (n : Nat) (b : Bool) (d : Device) : (receiptEnds n b d).backed = d.backed := by
  simp [receiptEnds]
@[simp] theorem receiptEnds_radio (n : Nat) (b : Bool) (d : Device) : (receiptEnds n b d).radio = d.radio := by
  simp [receiptEnds]
@[simp] theorem receiptEnds_ahead (n : Nat) (b : Bool) (d : Device) : (receiptEnds n b d).ahead = d.ahead := by
  simp [receiptEnds]
@[simp] theorem receiptEnds_draws (n : Nat) (b : Bool) (d : Device) : (receiptEnds n b d).draws = d.draws := by
  simp [receiptEnds]

@[simp] theorem replyEnds_pins (n : Nat) (b : Bool) (d : Device) : (replyEnds n b d).pins = d.pins := by
  simp [replyEnds]
@[simp] theorem replyEnds_vehicle (n : Nat) (b : Bool) (d : Device) : (replyEnds n b d).vehicle = d.vehicle := by
  simp [replyEnds]
@[simp] theorem replyEnds_tariff (n : Nat) (b : Bool) (d : Device) : (replyEnds n b d).tariff = d.tariff := by
  simp [replyEnds]
@[simp] theorem replyEnds_meter (n : Nat) (b : Bool) (d : Device) : (replyEnds n b d).meter = d.meter := by
  simp [replyEnds]
@[simp] theorem replyEnds_store (n : Nat) (b : Bool) (d : Device) : (replyEnds n b d).store = d.store := by
  simp [replyEnds]
@[simp] theorem replyEnds_channel (n : Nat) (b : Bool) (d : Device) : (replyEnds n b d).channel = d.channel := by
  simp [replyEnds]
@[simp] theorem replyEnds_uplink (n : Nat) (b : Bool) (d : Device) : (replyEnds n b d).uplink = d.uplink := by
  simp [replyEnds]
@[simp] theorem replyEnds_offers (n : Nat) (b : Bool) (d : Device) : (replyEnds n b d).offers = d.offers := by
  simp [replyEnds]
@[simp] theorem replyEnds_emergency (n : Nat) (b : Bool) (d : Device) : (replyEnds n b d).emergency = d.emergency := by
  simp [replyEnds]
@[simp] theorem replyEnds_sign (n : Nat) (b : Bool) (d : Device) : (replyEnds n b d).sign = d.sign := by
  simp [replyEnds]
@[simp] theorem replyEnds_link (n : Nat) (b : Bool) (d : Device) : (replyEnds n b d).link = d.link := by
  simp [replyEnds]
@[simp] theorem replyEnds_items (n : Nat) (b : Bool) (d : Device) : (replyEnds n b d).items = d.items := by
  simp [replyEnds]
@[simp] theorem replyEnds_backed (n : Nat) (b : Bool) (d : Device) : (replyEnds n b d).backed = d.backed := by
  simp [replyEnds]
@[simp] theorem replyEnds_radio (n : Nat) (b : Bool) (d : Device) : (replyEnds n b d).radio = d.radio := by
  simp [replyEnds]
@[simp] theorem replyEnds_ahead (n : Nat) (b : Bool) (d : Device) : (replyEnds n b d).ahead = d.ahead := by
  simp [replyEnds]
@[simp] theorem replyEnds_draws (n : Nat) (b : Bool) (d : Device) : (replyEnds n b d).draws = d.draws := by
  simp [replyEnds]

/-! ### The Emergency Controller -/

@[simp] theorem newCall_pins (b : Bool) (d : Device) : (newCall b d).pins = d.pins := by
  simp [newCall]
@[simp] theorem newCall_vehicle (b : Bool) (d : Device) : (newCall b d).vehicle = d.vehicle := by
  simp [newCall]
@[simp] theorem newCall_tariff (b : Bool) (d : Device) : (newCall b d).tariff = d.tariff := by
  simp [newCall]
@[simp] theorem newCall_store (b : Bool) (d : Device) : (newCall b d).store = d.store := by
  simp [newCall]
@[simp] theorem newCall_channel (b : Bool) (d : Device) : (newCall b d).channel = d.channel := by
  simp [newCall]
@[simp] theorem newCall_sign (b : Bool) (d : Device) : (newCall b d).sign = d.sign := by
  simp [newCall]
@[simp] theorem newCall_items (b : Bool) (d : Device) : (newCall b d).items = d.items := by
  simp [newCall]
@[simp] theorem newCall_backed (b : Bool) (d : Device) : (newCall b d).backed = d.backed := by
  simp [newCall]
@[simp] theorem newCall_radio (b : Bool) (d : Device) : (newCall b d).radio = d.radio := by
  simp [newCall]
@[simp] theorem newCall_ahead (b : Bool) (d : Device) : (newCall b d).ahead = d.ahead := by
  simp [newCall]
@[simp] theorem newCall_draws (b : Bool) (d : Device) : (newCall b d).draws = d.draws := by
  simp [newCall]

@[simp] theorem panicRaised_pins (d : Device) : (panicRaised d).pins = d.pins := by
  unfold panicRaised; split <;> simp
@[simp] theorem panicRaised_vehicle (d : Device) : (panicRaised d).vehicle = d.vehicle := by
  unfold panicRaised; split <;> simp
@[simp] theorem panicRaised_tariff (d : Device) : (panicRaised d).tariff = d.tariff := by
  unfold panicRaised; split <;> simp
@[simp] theorem panicRaised_store (d : Device) : (panicRaised d).store = d.store := by
  unfold panicRaised; split <;> simp
@[simp] theorem panicRaised_channel (d : Device) : (panicRaised d).channel = d.channel := by
  unfold panicRaised; split <;> simp
@[simp] theorem panicRaised_sign (d : Device) : (panicRaised d).sign = d.sign := by
  unfold panicRaised; split <;> simp
@[simp] theorem panicRaised_items (d : Device) : (panicRaised d).items = d.items := by
  unfold panicRaised; split <;> simp
@[simp] theorem panicRaised_backed (d : Device) : (panicRaised d).backed = d.backed := by
  unfold panicRaised; split <;> simp
@[simp] theorem panicRaised_radio (d : Device) : (panicRaised d).radio = d.radio := by
  unfold panicRaised; split <;> simp
@[simp] theorem panicRaised_ahead (d : Device) : (panicRaised d).ahead = d.ahead := by
  unfold panicRaised; split <;> simp
@[simp] theorem panicRaised_draws (d : Device) : (panicRaised d).draws = d.draws := by
  unfold panicRaised; split <;> simp

@[simp] theorem returnQuiet_pins (d : Device) : (returnQuiet d).pins = d.pins := by
  simp [returnQuiet]
@[simp] theorem returnQuiet_vehicle (d : Device) : (returnQuiet d).vehicle = d.vehicle := by
  simp [returnQuiet]
@[simp] theorem returnQuiet_tariff (d : Device) : (returnQuiet d).tariff = d.tariff := by
  simp [returnQuiet]
@[simp] theorem returnQuiet_meter (d : Device) : (returnQuiet d).meter = d.meter := by
  simp [returnQuiet]
@[simp] theorem returnQuiet_store (d : Device) : (returnQuiet d).store = d.store := by
  simp [returnQuiet]
@[simp] theorem returnQuiet_channel (d : Device) : (returnQuiet d).channel = d.channel := by
  simp [returnQuiet]
@[simp] theorem returnQuiet_offers (d : Device) : (returnQuiet d).offers = d.offers := by
  simp [returnQuiet]
@[simp] theorem returnQuiet_mail (d : Device) : (returnQuiet d).mail = d.mail := by
  simp [returnQuiet]
@[simp] theorem returnQuiet_sign (d : Device) : (returnQuiet d).sign = d.sign := by
  simp [returnQuiet]
@[simp] theorem returnQuiet_link (d : Device) : (returnQuiet d).link = d.link := by
  simp [returnQuiet]
@[simp] theorem returnQuiet_items (d : Device) : (returnQuiet d).items = d.items := by
  simp [returnQuiet]
@[simp] theorem returnQuiet_backed (d : Device) : (returnQuiet d).backed = d.backed := by
  simp [returnQuiet]
@[simp] theorem returnQuiet_radio (d : Device) : (returnQuiet d).radio = d.radio := by
  simp [returnQuiet]
@[simp] theorem returnQuiet_ahead (d : Device) : (returnQuiet d).ahead = d.ahead := by
  simp [returnQuiet]
@[simp] theorem returnQuiet_draws (d : Device) : (returnQuiet d).draws = d.draws := by
  simp [returnQuiet]

@[simp] theorem returnTold_pins (c : EmCause) (d : Device) : (returnTold c d).pins = d.pins := by
  simp [returnTold]
@[simp] theorem returnTold_vehicle (c : EmCause) (d : Device) : (returnTold c d).vehicle = d.vehicle := by
  simp [returnTold]
@[simp] theorem returnTold_tariff (c : EmCause) (d : Device) : (returnTold c d).tariff = d.tariff := by
  simp [returnTold]
@[simp] theorem returnTold_meter (c : EmCause) (d : Device) : (returnTold c d).meter = d.meter := by
  simp [returnTold]
@[simp] theorem returnTold_store (c : EmCause) (d : Device) : (returnTold c d).store = d.store := by
  simp [returnTold]
@[simp] theorem returnTold_channel (c : EmCause) (d : Device) : (returnTold c d).channel = d.channel := by
  simp [returnTold]
@[simp] theorem returnTold_offers (c : EmCause) (d : Device) : (returnTold c d).offers = d.offers := by
  simp [returnTold]
@[simp] theorem returnTold_mail (c : EmCause) (d : Device) : (returnTold c d).mail = d.mail := by
  simp [returnTold]
@[simp] theorem returnTold_sign (c : EmCause) (d : Device) : (returnTold c d).sign = d.sign := by
  simp [returnTold]
@[simp] theorem returnTold_items (c : EmCause) (d : Device) : (returnTold c d).items = d.items := by
  simp [returnTold]
@[simp] theorem returnTold_backed (c : EmCause) (d : Device) : (returnTold c d).backed = d.backed := by
  simp [returnTold]
@[simp] theorem returnTold_radio (c : EmCause) (d : Device) : (returnTold c d).radio = d.radio := by
  simp [returnTold]
@[simp] theorem returnTold_ahead (c : EmCause) (d : Device) : (returnTold c d).ahead = d.ahead := by
  simp [returnTold]
@[simp] theorem returnTold_draws (c : EmCause) (d : Device) : (returnTold c d).draws = d.draws := by
  simp [returnTold]

@[simp] theorem takeAck_pins (n : Nat) (d : Device) : (takeAck n d).pins = d.pins := by
  unfold takeAck; split <;> simp
@[simp] theorem takeAck_vehicle (n : Nat) (d : Device) : (takeAck n d).vehicle = d.vehicle := by
  unfold takeAck; split <;> simp
@[simp] theorem takeAck_tariff (n : Nat) (d : Device) : (takeAck n d).tariff = d.tariff := by
  unfold takeAck; split <;> simp
@[simp] theorem takeAck_meter (n : Nat) (d : Device) : (takeAck n d).meter = d.meter := by
  unfold takeAck; split <;> simp
@[simp] theorem takeAck_store (n : Nat) (d : Device) : (takeAck n d).store = d.store := by
  unfold takeAck; split <;> simp
@[simp] theorem takeAck_channel (n : Nat) (d : Device) : (takeAck n d).channel = d.channel := by
  unfold takeAck; split <;> simp
@[simp] theorem takeAck_offers (n : Nat) (d : Device) : (takeAck n d).offers = d.offers := by
  unfold takeAck; split <;> simp
@[simp] theorem takeAck_mail (n : Nat) (d : Device) : (takeAck n d).mail = d.mail := by
  unfold takeAck; split <;> simp
@[simp] theorem takeAck_sign (n : Nat) (d : Device) : (takeAck n d).sign = d.sign := by
  unfold takeAck; split <;> simp
@[simp] theorem takeAck_items (n : Nat) (d : Device) : (takeAck n d).items = d.items := by
  unfold takeAck; split <;> simp
@[simp] theorem takeAck_backed (n : Nat) (d : Device) : (takeAck n d).backed = d.backed := by
  unfold takeAck; split <;> simp
@[simp] theorem takeAck_radio (n : Nat) (d : Device) : (takeAck n d).radio = d.radio := by
  unfold takeAck; split <;> simp
@[simp] theorem takeAck_ahead (n : Nat) (d : Device) : (takeAck n d).ahead = d.ahead := by
  unfold takeAck; split <;> simp
@[simp] theorem takeAck_draws (n : Nat) (d : Device) : (takeAck n d).draws = d.draws := by
  unfold takeAck; split <;> simp

@[simp] theorem takeClear_pins (n : Nat) (d : Device) : (takeClear n d).pins = d.pins := by
  unfold takeClear; split <;> simp
@[simp] theorem takeClear_vehicle (n : Nat) (d : Device) : (takeClear n d).vehicle = d.vehicle := by
  unfold takeClear; split <;> simp
@[simp] theorem takeClear_tariff (n : Nat) (d : Device) : (takeClear n d).tariff = d.tariff := by
  unfold takeClear; split <;> simp
@[simp] theorem takeClear_meter (n : Nat) (d : Device) : (takeClear n d).meter = d.meter := by
  unfold takeClear; split <;> simp
@[simp] theorem takeClear_store (n : Nat) (d : Device) : (takeClear n d).store = d.store := by
  unfold takeClear; split <;> simp
@[simp] theorem takeClear_channel (n : Nat) (d : Device) : (takeClear n d).channel = d.channel := by
  unfold takeClear; split <;> simp
@[simp] theorem takeClear_offers (n : Nat) (d : Device) : (takeClear n d).offers = d.offers := by
  unfold takeClear; split <;> simp
@[simp] theorem takeClear_mail (n : Nat) (d : Device) : (takeClear n d).mail = d.mail := by
  unfold takeClear; split <;> simp
@[simp] theorem takeClear_sign (n : Nat) (d : Device) : (takeClear n d).sign = d.sign := by
  unfold takeClear; split <;> simp
@[simp] theorem takeClear_items (n : Nat) (d : Device) : (takeClear n d).items = d.items := by
  unfold takeClear; split <;> simp
@[simp] theorem takeClear_backed (n : Nat) (d : Device) : (takeClear n d).backed = d.backed := by
  unfold takeClear; split <;> simp
@[simp] theorem takeClear_radio (n : Nat) (d : Device) : (takeClear n d).radio = d.radio := by
  unfold takeClear; split <;> simp
@[simp] theorem takeClear_ahead (n : Nat) (d : Device) : (takeClear n d).ahead = d.ahead := by
  unfold takeClear; split <;> simp
@[simp] theorem takeClear_draws (n : Nat) (d : Device) : (takeClear n d).draws = d.draws := by
  unfold takeClear; split <;> simp

@[simp] theorem beginCancelling_pins (d : Device) : (beginCancelling d).pins = d.pins := by
  simp [beginCancelling]
@[simp] theorem beginCancelling_vehicle (d : Device) : (beginCancelling d).vehicle = d.vehicle := by
  simp [beginCancelling]
@[simp] theorem beginCancelling_tariff (d : Device) : (beginCancelling d).tariff = d.tariff := by
  simp [beginCancelling]
@[simp] theorem beginCancelling_meter (d : Device) : (beginCancelling d).meter = d.meter := by
  simp [beginCancelling]
@[simp] theorem beginCancelling_store (d : Device) : (beginCancelling d).store = d.store := by
  simp [beginCancelling]
@[simp] theorem beginCancelling_channel (d : Device) : (beginCancelling d).channel = d.channel := by
  simp [beginCancelling]
@[simp] theorem beginCancelling_offers (d : Device) : (beginCancelling d).offers = d.offers := by
  simp [beginCancelling]
@[simp] theorem beginCancelling_mail (d : Device) : (beginCancelling d).mail = d.mail := by
  simp [beginCancelling]
@[simp] theorem beginCancelling_sign (d : Device) : (beginCancelling d).sign = d.sign := by
  simp [beginCancelling]
@[simp] theorem beginCancelling_link (d : Device) : (beginCancelling d).link = d.link := by
  simp [beginCancelling]
@[simp] theorem beginCancelling_items (d : Device) : (beginCancelling d).items = d.items := by
  simp [beginCancelling]
@[simp] theorem beginCancelling_backed (d : Device) : (beginCancelling d).backed = d.backed := by
  simp [beginCancelling]
@[simp] theorem beginCancelling_radio (d : Device) : (beginCancelling d).radio = d.radio := by
  simp [beginCancelling]
@[simp] theorem beginCancelling_ahead (d : Device) : (beginCancelling d).ahead = d.ahead := by
  simp [beginCancelling]
@[simp] theorem beginCancelling_draws (d : Device) : (beginCancelling d).draws = d.draws := by
  simp [beginCancelling]

@[simp] theorem cancelSentOne_pins (d : Device) : (cancelSentOne d).pins = d.pins := by
  simp only [cancelSentOne]; split <;> simp
@[simp] theorem cancelSentOne_vehicle (d : Device) : (cancelSentOne d).vehicle = d.vehicle := by
  simp only [cancelSentOne]; split <;> simp
@[simp] theorem cancelSentOne_tariff (d : Device) : (cancelSentOne d).tariff = d.tariff := by
  simp only [cancelSentOne]; split <;> simp
@[simp] theorem cancelSentOne_meter (d : Device) : (cancelSentOne d).meter = d.meter := by
  simp only [cancelSentOne]; split <;> simp
@[simp] theorem cancelSentOne_store (d : Device) : (cancelSentOne d).store = d.store := by
  simp only [cancelSentOne]; split <;> simp
@[simp] theorem cancelSentOne_channel (d : Device) : (cancelSentOne d).channel = d.channel := by
  simp only [cancelSentOne]; split <;> simp
@[simp] theorem cancelSentOne_offers (d : Device) : (cancelSentOne d).offers = d.offers := by
  simp only [cancelSentOne]; split <;> simp
@[simp] theorem cancelSentOne_mail (d : Device) : (cancelSentOne d).mail = d.mail := by
  simp only [cancelSentOne]; split <;> simp
@[simp] theorem cancelSentOne_sign (d : Device) : (cancelSentOne d).sign = d.sign := by
  simp only [cancelSentOne]; split <;> simp
@[simp] theorem cancelSentOne_items (d : Device) : (cancelSentOne d).items = d.items := by
  simp only [cancelSentOne]; split <;> simp
@[simp] theorem cancelSentOne_backed (d : Device) : (cancelSentOne d).backed = d.backed := by
  simp only [cancelSentOne]; split <;> simp
@[simp] theorem cancelSentOne_radio (d : Device) : (cancelSentOne d).radio = d.radio := by
  simp only [cancelSentOne]; split <;> simp
@[simp] theorem cancelSentOne_ahead (d : Device) : (cancelSentOne d).ahead = d.ahead := by
  simp only [cancelSentOne]; split <;> simp
@[simp] theorem cancelSentOne_draws (d : Device) : (cancelSentOne d).draws = d.draws := by
  simp only [cancelSentOne]; split <;> simp

@[simp] theorem laneReport_pins (b : LaneBlock) (d : Device) : (laneReport b d).pins = d.pins := by
  unfold laneReport; split <;> (try split) <;> (try split) <;> simp
@[simp] theorem laneReport_vehicle (b : LaneBlock) (d : Device) : (laneReport b d).vehicle = d.vehicle := by
  unfold laneReport; split <;> (try split) <;> (try split) <;> simp
@[simp] theorem laneReport_tariff (b : LaneBlock) (d : Device) : (laneReport b d).tariff = d.tariff := by
  unfold laneReport; split <;> (try split) <;> (try split) <;> simp
@[simp] theorem laneReport_meter (b : LaneBlock) (d : Device) : (laneReport b d).meter = d.meter := by
  unfold laneReport; split <;> (try split) <;> (try split) <;> simp
@[simp] theorem laneReport_store (b : LaneBlock) (d : Device) : (laneReport b d).store = d.store := by
  unfold laneReport; split <;> (try split) <;> (try split) <;> simp
@[simp] theorem laneReport_channel (b : LaneBlock) (d : Device) : (laneReport b d).channel = d.channel := by
  unfold laneReport; split <;> (try split) <;> (try split) <;> simp
@[simp] theorem laneReport_offers (b : LaneBlock) (d : Device) : (laneReport b d).offers = d.offers := by
  unfold laneReport; split <;> (try split) <;> (try split) <;> simp
@[simp] theorem laneReport_mail (b : LaneBlock) (d : Device) : (laneReport b d).mail = d.mail := by
  unfold laneReport; split <;> (try split) <;> (try split) <;> simp
@[simp] theorem laneReport_sign (b : LaneBlock) (d : Device) : (laneReport b d).sign = d.sign := by
  unfold laneReport; split <;> (try split) <;> (try split) <;> simp
@[simp] theorem laneReport_items (b : LaneBlock) (d : Device) : (laneReport b d).items = d.items := by
  unfold laneReport; split <;> (try split) <;> (try split) <;> simp
@[simp] theorem laneReport_backed (b : LaneBlock) (d : Device) : (laneReport b d).backed = d.backed := by
  unfold laneReport; split <;> (try split) <;> (try split) <;> simp
@[simp] theorem laneReport_radio (b : LaneBlock) (d : Device) : (laneReport b d).radio = d.radio := by
  unfold laneReport; split <;> (try split) <;> (try split) <;> simp
@[simp] theorem laneReport_ahead (b : LaneBlock) (d : Device) : (laneReport b d).ahead = d.ahead := by
  unfold laneReport; split <;> (try split) <;> (try split) <;> simp
@[simp] theorem laneReport_draws (b : LaneBlock) (d : Device) : (laneReport b d).draws = d.draws := by
  unfold laneReport; split <;> (try split) <;> (try split) <;> simp

@[simp] theorem trackEnds_pins (d : Device) : (trackEnds d).pins = d.pins := by
  simp [trackEnds]
@[simp] theorem trackEnds_vehicle (d : Device) : (trackEnds d).vehicle = d.vehicle := by
  simp [trackEnds]
@[simp] theorem trackEnds_tariff (d : Device) : (trackEnds d).tariff = d.tariff := by
  simp [trackEnds]
@[simp] theorem trackEnds_meter (d : Device) : (trackEnds d).meter = d.meter := by
  simp [trackEnds]
@[simp] theorem trackEnds_store (d : Device) : (trackEnds d).store = d.store := by
  simp [trackEnds]
@[simp] theorem trackEnds_channel (d : Device) : (trackEnds d).channel = d.channel := by
  simp [trackEnds]
@[simp] theorem trackEnds_offers (d : Device) : (trackEnds d).offers = d.offers := by
  simp [trackEnds]
@[simp] theorem trackEnds_mail (d : Device) : (trackEnds d).mail = d.mail := by
  simp [trackEnds]
@[simp] theorem trackEnds_sign (d : Device) : (trackEnds d).sign = d.sign := by
  simp [trackEnds]
@[simp] theorem trackEnds_link (d : Device) : (trackEnds d).link = d.link := by
  simp [trackEnds]
@[simp] theorem trackEnds_items (d : Device) : (trackEnds d).items = d.items := by
  simp [trackEnds]
@[simp] theorem trackEnds_backed (d : Device) : (trackEnds d).backed = d.backed := by
  simp [trackEnds]
@[simp] theorem trackEnds_radio (d : Device) : (trackEnds d).radio = d.radio := by
  simp [trackEnds]
@[simp] theorem trackEnds_ahead (d : Device) : (trackEnds d).ahead = d.ahead := by
  simp [trackEnds]
@[simp] theorem trackEnds_draws (d : Device) : (trackEnds d).draws = d.draws := by
  simp [trackEnds]

@[simp] theorem trackTick_pins (d : Device) : (trackTick d).pins = d.pins := by
  unfold trackTick; split <;> (try split) <;> simp
@[simp] theorem trackTick_vehicle (d : Device) : (trackTick d).vehicle = d.vehicle := by
  unfold trackTick; split <;> (try split) <;> simp
@[simp] theorem trackTick_tariff (d : Device) : (trackTick d).tariff = d.tariff := by
  unfold trackTick; split <;> (try split) <;> simp
@[simp] theorem trackTick_meter (d : Device) : (trackTick d).meter = d.meter := by
  unfold trackTick; split <;> (try split) <;> simp
@[simp] theorem trackTick_store (d : Device) : (trackTick d).store = d.store := by
  unfold trackTick; split <;> (try split) <;> simp
@[simp] theorem trackTick_channel (d : Device) : (trackTick d).channel = d.channel := by
  unfold trackTick; split <;> (try split) <;> simp
@[simp] theorem trackTick_offers (d : Device) : (trackTick d).offers = d.offers := by
  unfold trackTick; split <;> (try split) <;> simp
@[simp] theorem trackTick_mail (d : Device) : (trackTick d).mail = d.mail := by
  unfold trackTick; split <;> (try split) <;> simp
@[simp] theorem trackTick_sign (d : Device) : (trackTick d).sign = d.sign := by
  unfold trackTick; split <;> (try split) <;> simp
@[simp] theorem trackTick_link (d : Device) : (trackTick d).link = d.link := by
  unfold trackTick; split <;> (try split) <;> simp
@[simp] theorem trackTick_items (d : Device) : (trackTick d).items = d.items := by
  unfold trackTick; split <;> (try split) <;> simp
@[simp] theorem trackTick_backed (d : Device) : (trackTick d).backed = d.backed := by
  unfold trackTick; split <;> (try split) <;> simp
@[simp] theorem trackTick_radio (d : Device) : (trackTick d).radio = d.radio := by
  unfold trackTick; split <;> (try split) <;> simp
@[simp] theorem trackTick_ahead (d : Device) : (trackTick d).ahead = d.ahead := by
  unfold trackTick; split <;> (try split) <;> simp
@[simp] theorem trackTick_draws (d : Device) : (trackTick d).draws = d.draws := by
  unfold trackTick; split <;> (try split) <;> simp

/-! ### Vehicle Inputs -/

@[simp] theorem flagSensorFault_pins (d : Device) : (flagSensorFault d).pins = d.pins := by
  unfold flagSensorFault; split <;> simp
@[simp] theorem flagSensorFault_vehicle (d : Device) : (flagSensorFault d).vehicle = d.vehicle := by
  unfold flagSensorFault; split <;> simp
@[simp] theorem flagSensorFault_tariff (d : Device) : (flagSensorFault d).tariff = d.tariff := by
  unfold flagSensorFault; split <;> simp
@[simp] theorem flagSensorFault_store (d : Device) : (flagSensorFault d).store = d.store := by
  unfold flagSensorFault; split <;> simp
@[simp] theorem flagSensorFault_channel (d : Device) : (flagSensorFault d).channel = d.channel := by
  unfold flagSensorFault; split <;> simp
@[simp] theorem flagSensorFault_uplink (d : Device) : (flagSensorFault d).uplink = d.uplink := by
  unfold flagSensorFault; split <;> simp
@[simp] theorem flagSensorFault_offers (d : Device) : (flagSensorFault d).offers = d.offers := by
  unfold flagSensorFault; split <;> simp
@[simp] theorem flagSensorFault_mail (d : Device) : (flagSensorFault d).mail = d.mail := by
  unfold flagSensorFault; split <;> simp
@[simp] theorem flagSensorFault_emergency (d : Device) : (flagSensorFault d).emergency = d.emergency := by
  unfold flagSensorFault; split <;> simp
@[simp] theorem flagSensorFault_sign (d : Device) : (flagSensorFault d).sign = d.sign := by
  unfold flagSensorFault; split <;> simp
@[simp] theorem flagSensorFault_link (d : Device) : (flagSensorFault d).link = d.link := by
  unfold flagSensorFault; split <;> simp
@[simp] theorem flagSensorFault_items (d : Device) : (flagSensorFault d).items = d.items := by
  unfold flagSensorFault; split <;> simp
@[simp] theorem flagSensorFault_backed (d : Device) : (flagSensorFault d).backed = d.backed := by
  unfold flagSensorFault; split <;> simp
@[simp] theorem flagSensorFault_radio (d : Device) : (flagSensorFault d).radio = d.radio := by
  unfold flagSensorFault; split <;> simp
@[simp] theorem flagSensorFault_ahead (d : Device) : (flagSensorFault d).ahead = d.ahead := by
  unfold flagSensorFault; split <;> simp
@[simp] theorem flagSensorFault_draws (d : Device) : (flagSensorFault d).draws = d.draws := by
  unfold flagSensorFault; split <;> simp

@[simp] theorem flagImplausible_pins (d : Device) : (flagImplausible d).pins = d.pins := by
  unfold flagImplausible; split <;> simp
@[simp] theorem flagImplausible_vehicle (d : Device) : (flagImplausible d).vehicle = d.vehicle := by
  unfold flagImplausible; split <;> simp
@[simp] theorem flagImplausible_tariff (d : Device) : (flagImplausible d).tariff = d.tariff := by
  unfold flagImplausible; split <;> simp
@[simp] theorem flagImplausible_store (d : Device) : (flagImplausible d).store = d.store := by
  unfold flagImplausible; split <;> simp
@[simp] theorem flagImplausible_channel (d : Device) : (flagImplausible d).channel = d.channel := by
  unfold flagImplausible; split <;> simp
@[simp] theorem flagImplausible_uplink (d : Device) : (flagImplausible d).uplink = d.uplink := by
  unfold flagImplausible; split <;> simp
@[simp] theorem flagImplausible_offers (d : Device) : (flagImplausible d).offers = d.offers := by
  unfold flagImplausible; split <;> simp
@[simp] theorem flagImplausible_mail (d : Device) : (flagImplausible d).mail = d.mail := by
  unfold flagImplausible; split <;> simp
@[simp] theorem flagImplausible_emergency (d : Device) : (flagImplausible d).emergency = d.emergency := by
  unfold flagImplausible; split <;> simp
@[simp] theorem flagImplausible_sign (d : Device) : (flagImplausible d).sign = d.sign := by
  unfold flagImplausible; split <;> simp
@[simp] theorem flagImplausible_link (d : Device) : (flagImplausible d).link = d.link := by
  unfold flagImplausible; split <;> simp
@[simp] theorem flagImplausible_items (d : Device) : (flagImplausible d).items = d.items := by
  unfold flagImplausible; split <;> simp
@[simp] theorem flagImplausible_backed (d : Device) : (flagImplausible d).backed = d.backed := by
  unfold flagImplausible; split <;> simp
@[simp] theorem flagImplausible_radio (d : Device) : (flagImplausible d).radio = d.radio := by
  unfold flagImplausible; split <;> simp
@[simp] theorem flagImplausible_ahead (d : Device) : (flagImplausible d).ahead = d.ahead := by
  unfold flagImplausible; split <;> simp
@[simp] theorem flagImplausible_draws (d : Device) : (flagImplausible d).draws = d.draws := by
  unfold flagImplausible; split <;> simp

@[simp] theorem raiseFault_pins (d : Device) : (raiseFault d).pins = d.pins := by
  simp [raiseFault]
@[simp] theorem raiseFault_tariff (d : Device) : (raiseFault d).tariff = d.tariff := by
  simp [raiseFault]
@[simp] theorem raiseFault_store (d : Device) : (raiseFault d).store = d.store := by
  simp [raiseFault]
@[simp] theorem raiseFault_channel (d : Device) : (raiseFault d).channel = d.channel := by
  simp [raiseFault]
@[simp] theorem raiseFault_uplink (d : Device) : (raiseFault d).uplink = d.uplink := by
  simp [raiseFault]
@[simp] theorem raiseFault_offers (d : Device) : (raiseFault d).offers = d.offers := by
  simp [raiseFault]
@[simp] theorem raiseFault_mail (d : Device) : (raiseFault d).mail = d.mail := by
  simp [raiseFault]
@[simp] theorem raiseFault_emergency (d : Device) : (raiseFault d).emergency = d.emergency := by
  simp [raiseFault]
@[simp] theorem raiseFault_sign (d : Device) : (raiseFault d).sign = d.sign := by
  simp [raiseFault]
@[simp] theorem raiseFault_items (d : Device) : (raiseFault d).items = d.items := by
  simp [raiseFault]
@[simp] theorem raiseFault_backed (d : Device) : (raiseFault d).backed = d.backed := by
  simp [raiseFault]
@[simp] theorem raiseFault_radio (d : Device) : (raiseFault d).radio = d.radio := by
  simp [raiseFault]
@[simp] theorem raiseFault_ahead (d : Device) : (raiseFault d).ahead = d.ahead := by
  simp [raiseFault]
@[simp] theorem raiseFault_draws (d : Device) : (raiseFault d).draws = d.draws := by
  simp [raiseFault]

@[simp] theorem countPhaseError_pins (d : Device) : (countPhaseError d).pins = d.pins := by
  simp only [countPhaseError]; split <;> simp
@[simp] theorem countPhaseError_tariff (d : Device) : (countPhaseError d).tariff = d.tariff := by
  simp only [countPhaseError]; split <;> simp
@[simp] theorem countPhaseError_store (d : Device) : (countPhaseError d).store = d.store := by
  simp only [countPhaseError]; split <;> simp
@[simp] theorem countPhaseError_channel (d : Device) : (countPhaseError d).channel = d.channel := by
  simp only [countPhaseError]; split <;> simp
@[simp] theorem countPhaseError_uplink (d : Device) : (countPhaseError d).uplink = d.uplink := by
  simp only [countPhaseError]; split <;> simp
@[simp] theorem countPhaseError_offers (d : Device) : (countPhaseError d).offers = d.offers := by
  simp only [countPhaseError]; split <;> simp
@[simp] theorem countPhaseError_mail (d : Device) : (countPhaseError d).mail = d.mail := by
  simp only [countPhaseError]; split <;> simp
@[simp] theorem countPhaseError_emergency (d : Device) : (countPhaseError d).emergency = d.emergency := by
  simp only [countPhaseError]; split <;> simp
@[simp] theorem countPhaseError_sign (d : Device) : (countPhaseError d).sign = d.sign := by
  simp only [countPhaseError]; split <;> simp
@[simp] theorem countPhaseError_items (d : Device) : (countPhaseError d).items = d.items := by
  simp only [countPhaseError]; split <;> simp
@[simp] theorem countPhaseError_backed (d : Device) : (countPhaseError d).backed = d.backed := by
  simp only [countPhaseError]; split <;> simp
@[simp] theorem countPhaseError_radio (d : Device) : (countPhaseError d).radio = d.radio := by
  simp only [countPhaseError]; split <;> simp
@[simp] theorem countPhaseError_ahead (d : Device) : (countPhaseError d).ahead = d.ahead := by
  simp only [countPhaseError]; split <;> simp
@[simp] theorem countPhaseError_draws (d : Device) : (countPhaseError d).draws = d.draws := by
  simp only [countPhaseError]; split <;> simp

@[simp] theorem countChange_pins (c : Change) (d : Device) : (countChange c d).pins = d.pins := by
  unfold countChange; split <;> (try split) <;> simp
@[simp] theorem countChange_tariff (c : Change) (d : Device) : (countChange c d).tariff = d.tariff := by
  unfold countChange; split <;> (try split) <;> simp
@[simp] theorem countChange_store (c : Change) (d : Device) : (countChange c d).store = d.store := by
  unfold countChange; split <;> (try split) <;> simp
@[simp] theorem countChange_channel (c : Change) (d : Device) : (countChange c d).channel = d.channel := by
  unfold countChange; split <;> (try split) <;> simp
@[simp] theorem countChange_uplink (c : Change) (d : Device) : (countChange c d).uplink = d.uplink := by
  unfold countChange; split <;> (try split) <;> simp
@[simp] theorem countChange_offers (c : Change) (d : Device) : (countChange c d).offers = d.offers := by
  unfold countChange; split <;> (try split) <;> simp
@[simp] theorem countChange_mail (c : Change) (d : Device) : (countChange c d).mail = d.mail := by
  unfold countChange; split <;> (try split) <;> simp
@[simp] theorem countChange_emergency (c : Change) (d : Device) : (countChange c d).emergency = d.emergency := by
  unfold countChange; split <;> (try split) <;> simp
@[simp] theorem countChange_sign (c : Change) (d : Device) : (countChange c d).sign = d.sign := by
  unfold countChange; split <;> (try split) <;> simp
@[simp] theorem countChange_items (c : Change) (d : Device) : (countChange c d).items = d.items := by
  unfold countChange; split <;> (try split) <;> simp
@[simp] theorem countChange_backed (c : Change) (d : Device) : (countChange c d).backed = d.backed := by
  unfold countChange; split <;> (try split) <;> simp
@[simp] theorem countChange_radio (c : Change) (d : Device) : (countChange c d).radio = d.radio := by
  unfold countChange; split <;> (try split) <;> simp
@[simp] theorem countChange_ahead (c : Change) (d : Device) : (countChange c d).ahead = d.ahead := by
  unfold countChange; split <;> (try split) <;> simp
@[simp] theorem countChange_draws (c : Change) (d : Device) : (countChange c d).draws = d.draws := by
  unfold countChange; split <;> (try split) <;> simp

@[simp] theorem wheelChange_tariff (a b : Bool) (d : Device) : (wheelChange a b d).tariff = d.tariff := by
  unfold wheelChange; split <;> simp
@[simp] theorem wheelChange_store (a b : Bool) (d : Device) : (wheelChange a b d).store = d.store := by
  unfold wheelChange; split <;> simp
@[simp] theorem wheelChange_channel (a b : Bool) (d : Device) : (wheelChange a b d).channel = d.channel := by
  unfold wheelChange; split <;> simp
@[simp] theorem wheelChange_uplink (a b : Bool) (d : Device) : (wheelChange a b d).uplink = d.uplink := by
  unfold wheelChange; split <;> simp
@[simp] theorem wheelChange_offers (a b : Bool) (d : Device) : (wheelChange a b d).offers = d.offers := by
  unfold wheelChange; split <;> simp
@[simp] theorem wheelChange_mail (a b : Bool) (d : Device) : (wheelChange a b d).mail = d.mail := by
  unfold wheelChange; split <;> simp
@[simp] theorem wheelChange_emergency (a b : Bool) (d : Device) : (wheelChange a b d).emergency = d.emergency := by
  unfold wheelChange; split <;> simp
@[simp] theorem wheelChange_sign (a b : Bool) (d : Device) : (wheelChange a b d).sign = d.sign := by
  unfold wheelChange; split <;> simp
@[simp] theorem wheelChange_items (a b : Bool) (d : Device) : (wheelChange a b d).items = d.items := by
  unfold wheelChange; split <;> simp
@[simp] theorem wheelChange_backed (a b : Bool) (d : Device) : (wheelChange a b d).backed = d.backed := by
  unfold wheelChange; split <;> simp
@[simp] theorem wheelChange_radio (a b : Bool) (d : Device) : (wheelChange a b d).radio = d.radio := by
  unfold wheelChange; split <;> simp
@[simp] theorem wheelChange_ahead (a b : Bool) (d : Device) : (wheelChange a b d).ahead = d.ahead := by
  unfold wheelChange; split <;> simp
@[simp] theorem wheelChange_draws (a b : Bool) (d : Device) : (wheelChange a b d).draws = d.draws := by
  unfold wheelChange; split <;> simp

@[simp] theorem implausibleTick_pins (b : Bool) (d : Device) : (implausibleTick b d).pins = d.pins := by
  simp [implausibleTick]
@[simp] theorem implausibleTick_vehicle (b : Bool) (d : Device) : (implausibleTick b d).vehicle = d.vehicle := by
  simp [implausibleTick]
@[simp] theorem implausibleTick_tariff (b : Bool) (d : Device) : (implausibleTick b d).tariff = d.tariff := by
  simp [implausibleTick]
@[simp] theorem implausibleTick_store (b : Bool) (d : Device) : (implausibleTick b d).store = d.store := by
  simp [implausibleTick]
@[simp] theorem implausibleTick_channel (b : Bool) (d : Device) : (implausibleTick b d).channel = d.channel := by
  simp [implausibleTick]
@[simp] theorem implausibleTick_uplink (b : Bool) (d : Device) : (implausibleTick b d).uplink = d.uplink := by
  simp [implausibleTick]
@[simp] theorem implausibleTick_offers (b : Bool) (d : Device) : (implausibleTick b d).offers = d.offers := by
  simp [implausibleTick]
@[simp] theorem implausibleTick_mail (b : Bool) (d : Device) : (implausibleTick b d).mail = d.mail := by
  simp [implausibleTick]
@[simp] theorem implausibleTick_emergency (b : Bool) (d : Device) : (implausibleTick b d).emergency = d.emergency := by
  simp [implausibleTick]
@[simp] theorem implausibleTick_sign (b : Bool) (d : Device) : (implausibleTick b d).sign = d.sign := by
  simp [implausibleTick]
@[simp] theorem implausibleTick_items (b : Bool) (d : Device) : (implausibleTick b d).items = d.items := by
  simp [implausibleTick]
@[simp] theorem implausibleTick_backed (b : Bool) (d : Device) : (implausibleTick b d).backed = d.backed := by
  simp [implausibleTick]
@[simp] theorem implausibleTick_radio (b : Bool) (d : Device) : (implausibleTick b d).radio = d.radio := by
  simp [implausibleTick]
@[simp] theorem implausibleTick_ahead (b : Bool) (d : Device) : (implausibleTick b d).ahead = d.ahead := by
  simp [implausibleTick]
@[simp] theorem implausibleTick_draws (b : Bool) (d : Device) : (implausibleTick b d).draws = d.draws := by
  simp [implausibleTick]

@[simp] theorem closeEdges_pins (d : Device) : (closeEdges d).2.pins = d.pins := by
  simp only [closeEdges]; split <;> simp
@[simp] theorem closeEdges_tariff (d : Device) : (closeEdges d).2.tariff = d.tariff := by
  simp only [closeEdges]; split <;> simp
@[simp] theorem closeEdges_store (d : Device) : (closeEdges d).2.store = d.store := by
  simp only [closeEdges]; split <;> simp
@[simp] theorem closeEdges_channel (d : Device) : (closeEdges d).2.channel = d.channel := by
  simp only [closeEdges]; split <;> simp
@[simp] theorem closeEdges_uplink (d : Device) : (closeEdges d).2.uplink = d.uplink := by
  simp only [closeEdges]; split <;> simp
@[simp] theorem closeEdges_offers (d : Device) : (closeEdges d).2.offers = d.offers := by
  simp only [closeEdges]; split <;> simp
@[simp] theorem closeEdges_mail (d : Device) : (closeEdges d).2.mail = d.mail := by
  simp only [closeEdges]; split <;> simp
@[simp] theorem closeEdges_emergency (d : Device) : (closeEdges d).2.emergency = d.emergency := by
  simp only [closeEdges]; split <;> simp
@[simp] theorem closeEdges_sign (d : Device) : (closeEdges d).2.sign = d.sign := by
  simp only [closeEdges]; split <;> simp
@[simp] theorem closeEdges_items (d : Device) : (closeEdges d).2.items = d.items := by
  simp only [closeEdges]; split <;> simp
@[simp] theorem closeEdges_backed (d : Device) : (closeEdges d).2.backed = d.backed := by
  simp only [closeEdges]; split <;> simp
@[simp] theorem closeEdges_radio (d : Device) : (closeEdges d).2.radio = d.radio := by
  simp only [closeEdges]; split <;> simp
@[simp] theorem closeEdges_ahead (d : Device) : (closeEdges d).2.ahead = d.ahead := by
  simp only [closeEdges]; split <;> simp
@[simp] theorem closeEdges_draws (d : Device) : (closeEdges d).2.draws = d.draws := by
  simp only [closeEdges]; split <;> simp

@[simp] theorem nextDay_pins (n : Nat) (d : Device) : (nextDay n d).pins = d.pins := by
  unfold nextDay; split <;> simp
@[simp] theorem nextDay_store (n : Nat) (d : Device) : (nextDay n d).store = d.store := by
  unfold nextDay; split <;> simp
@[simp] theorem nextDay_channel (n : Nat) (d : Device) : (nextDay n d).channel = d.channel := by
  unfold nextDay; split <;> simp
@[simp] theorem nextDay_uplink (n : Nat) (d : Device) : (nextDay n d).uplink = d.uplink := by
  unfold nextDay; split <;> simp
@[simp] theorem nextDay_offers (n : Nat) (d : Device) : (nextDay n d).offers = d.offers := by
  unfold nextDay; split <;> simp
@[simp] theorem nextDay_mail (n : Nat) (d : Device) : (nextDay n d).mail = d.mail := by
  unfold nextDay; split <;> simp
@[simp] theorem nextDay_emergency (n : Nat) (d : Device) : (nextDay n d).emergency = d.emergency := by
  unfold nextDay; split <;> simp
@[simp] theorem nextDay_sign (n : Nat) (d : Device) : (nextDay n d).sign = d.sign := by
  unfold nextDay; split <;> simp
@[simp] theorem nextDay_link (n : Nat) (d : Device) : (nextDay n d).link = d.link := by
  unfold nextDay; split <;> simp
@[simp] theorem nextDay_items (n : Nat) (d : Device) : (nextDay n d).items = d.items := by
  unfold nextDay; split <;> simp
@[simp] theorem nextDay_backed (n : Nat) (d : Device) : (nextDay n d).backed = d.backed := by
  unfold nextDay; split <;> simp
@[simp] theorem nextDay_radio (n : Nat) (d : Device) : (nextDay n d).radio = d.radio := by
  unfold nextDay; split <;> simp
@[simp] theorem nextDay_ahead (n : Nat) (d : Device) : (nextDay n d).ahead = d.ahead := by
  unfold nextDay; split <;> simp
@[simp] theorem nextDay_draws (n : Nat) (d : Device) : (nextDay n d).draws = d.draws := by
  unfold nextDay; split <;> simp

@[simp] theorem nextSecond_pins (t : ClockTime) (d : Device) : (nextSecond t d).pins = d.pins := by
  simp only [nextSecond]; split <;> (try split) <;> simp
@[simp] theorem nextSecond_store (t : ClockTime) (d : Device) : (nextSecond t d).store = d.store := by
  simp only [nextSecond]; split <;> (try split) <;> simp
@[simp] theorem nextSecond_channel (t : ClockTime) (d : Device) : (nextSecond t d).channel = d.channel := by
  simp only [nextSecond]; split <;> (try split) <;> simp
@[simp] theorem nextSecond_uplink (t : ClockTime) (d : Device) : (nextSecond t d).uplink = d.uplink := by
  simp only [nextSecond]; split <;> (try split) <;> simp
@[simp] theorem nextSecond_offers (t : ClockTime) (d : Device) : (nextSecond t d).offers = d.offers := by
  simp only [nextSecond]; split <;> (try split) <;> simp
@[simp] theorem nextSecond_mail (t : ClockTime) (d : Device) : (nextSecond t d).mail = d.mail := by
  simp only [nextSecond]; split <;> (try split) <;> simp
@[simp] theorem nextSecond_emergency (t : ClockTime) (d : Device) : (nextSecond t d).emergency = d.emergency := by
  simp only [nextSecond]; split <;> (try split) <;> simp
@[simp] theorem nextSecond_sign (t : ClockTime) (d : Device) : (nextSecond t d).sign = d.sign := by
  simp only [nextSecond]; split <;> (try split) <;> simp
@[simp] theorem nextSecond_link (t : ClockTime) (d : Device) : (nextSecond t d).link = d.link := by
  simp only [nextSecond]; split <;> (try split) <;> simp
@[simp] theorem nextSecond_items (t : ClockTime) (d : Device) : (nextSecond t d).items = d.items := by
  simp only [nextSecond]; split <;> (try split) <;> simp
@[simp] theorem nextSecond_backed (t : ClockTime) (d : Device) : (nextSecond t d).backed = d.backed := by
  simp only [nextSecond]; split <;> (try split) <;> simp
@[simp] theorem nextSecond_radio (t : ClockTime) (d : Device) : (nextSecond t d).radio = d.radio := by
  simp only [nextSecond]; split <;> (try split) <;> simp
@[simp] theorem nextSecond_ahead (t : ClockTime) (d : Device) : (nextSecond t d).ahead = d.ahead := by
  simp only [nextSecond]; split <;> (try split) <;> simp
@[simp] theorem nextSecond_draws (t : ClockTime) (d : Device) : (nextSecond t d).draws = d.draws := by
  simp only [nextSecond]; split <;> (try split) <;> simp

@[simp] theorem clockTick_pins (d : Device) : (clockTick d).pins = d.pins := by
  unfold clockTick; split <;> (try split) <;> simp
@[simp] theorem clockTick_store (d : Device) : (clockTick d).store = d.store := by
  unfold clockTick; split <;> (try split) <;> simp
@[simp] theorem clockTick_channel (d : Device) : (clockTick d).channel = d.channel := by
  unfold clockTick; split <;> (try split) <;> simp
@[simp] theorem clockTick_uplink (d : Device) : (clockTick d).uplink = d.uplink := by
  unfold clockTick; split <;> (try split) <;> simp
@[simp] theorem clockTick_offers (d : Device) : (clockTick d).offers = d.offers := by
  unfold clockTick; split <;> (try split) <;> simp
@[simp] theorem clockTick_mail (d : Device) : (clockTick d).mail = d.mail := by
  unfold clockTick; split <;> (try split) <;> simp
@[simp] theorem clockTick_emergency (d : Device) : (clockTick d).emergency = d.emergency := by
  unfold clockTick; split <;> (try split) <;> simp
@[simp] theorem clockTick_sign (d : Device) : (clockTick d).sign = d.sign := by
  unfold clockTick; split <;> (try split) <;> simp
@[simp] theorem clockTick_link (d : Device) : (clockTick d).link = d.link := by
  unfold clockTick; split <;> (try split) <;> simp
@[simp] theorem clockTick_items (d : Device) : (clockTick d).items = d.items := by
  unfold clockTick; split <;> (try split) <;> simp
@[simp] theorem clockTick_backed (d : Device) : (clockTick d).backed = d.backed := by
  unfold clockTick; split <;> (try split) <;> simp
@[simp] theorem clockTick_radio (d : Device) : (clockTick d).radio = d.radio := by
  unfold clockTick; split <;> (try split) <;> simp
@[simp] theorem clockTick_ahead (d : Device) : (clockTick d).ahead = d.ahead := by
  unfold clockTick; split <;> (try split) <;> simp
@[simp] theorem clockTick_draws (d : Device) : (clockTick d).draws = d.draws := by
  unfold clockTick; split <;> (try split) <;> simp

@[simp] theorem stepClock_pins (r : Reading) (d : Device) : (stepClock r d).pins = d.pins := by
  simp [stepClock]
@[simp] theorem stepClock_tariff (r : Reading) (d : Device) : (stepClock r d).tariff = d.tariff := by
  simp [stepClock]
@[simp] theorem stepClock_meter (r : Reading) (d : Device) : (stepClock r d).meter = d.meter := by
  simp [stepClock]
@[simp] theorem stepClock_store (r : Reading) (d : Device) : (stepClock r d).store = d.store := by
  simp [stepClock]
@[simp] theorem stepClock_channel (r : Reading) (d : Device) : (stepClock r d).channel = d.channel := by
  simp [stepClock]
@[simp] theorem stepClock_uplink (r : Reading) (d : Device) : (stepClock r d).uplink = d.uplink := by
  simp [stepClock]
@[simp] theorem stepClock_offers (r : Reading) (d : Device) : (stepClock r d).offers = d.offers := by
  simp [stepClock]
@[simp] theorem stepClock_mail (r : Reading) (d : Device) : (stepClock r d).mail = d.mail := by
  simp [stepClock]
@[simp] theorem stepClock_emergency (r : Reading) (d : Device) : (stepClock r d).emergency = d.emergency := by
  simp [stepClock]
@[simp] theorem stepClock_sign (r : Reading) (d : Device) : (stepClock r d).sign = d.sign := by
  simp [stepClock]
@[simp] theorem stepClock_link (r : Reading) (d : Device) : (stepClock r d).link = d.link := by
  simp [stepClock]
@[simp] theorem stepClock_items (r : Reading) (d : Device) : (stepClock r d).items = d.items := by
  simp [stepClock]
@[simp] theorem stepClock_backed (r : Reading) (d : Device) : (stepClock r d).backed = d.backed := by
  simp [stepClock]
@[simp] theorem stepClock_radio (r : Reading) (d : Device) : (stepClock r d).radio = d.radio := by
  simp [stepClock]
@[simp] theorem stepClock_ahead (r : Reading) (d : Device) : (stepClock r d).ahead = d.ahead := by
  simp [stepClock]
@[simp] theorem stepClock_draws (r : Reading) (d : Device) : (stepClock r d).draws = d.draws := by
  simp [stepClock]

@[simp] theorem takeHolidayFlag_pins (n : Nat) (b : Bool) (d : Device) : (takeHolidayFlag n b d).pins = d.pins := by
  unfold takeHolidayFlag; split <;> simp
@[simp] theorem takeHolidayFlag_tariff (n : Nat) (b : Bool) (d : Device) : (takeHolidayFlag n b d).tariff = d.tariff := by
  unfold takeHolidayFlag; split <;> simp
@[simp] theorem takeHolidayFlag_meter (n : Nat) (b : Bool) (d : Device) : (takeHolidayFlag n b d).meter = d.meter := by
  unfold takeHolidayFlag; split <;> simp
@[simp] theorem takeHolidayFlag_store (n : Nat) (b : Bool) (d : Device) : (takeHolidayFlag n b d).store = d.store := by
  unfold takeHolidayFlag; split <;> simp
@[simp] theorem takeHolidayFlag_channel (n : Nat) (b : Bool) (d : Device) : (takeHolidayFlag n b d).channel = d.channel := by
  unfold takeHolidayFlag; split <;> simp
@[simp] theorem takeHolidayFlag_uplink (n : Nat) (b : Bool) (d : Device) : (takeHolidayFlag n b d).uplink = d.uplink := by
  unfold takeHolidayFlag; split <;> simp
@[simp] theorem takeHolidayFlag_offers (n : Nat) (b : Bool) (d : Device) : (takeHolidayFlag n b d).offers = d.offers := by
  unfold takeHolidayFlag; split <;> simp
@[simp] theorem takeHolidayFlag_mail (n : Nat) (b : Bool) (d : Device) : (takeHolidayFlag n b d).mail = d.mail := by
  unfold takeHolidayFlag; split <;> simp
@[simp] theorem takeHolidayFlag_emergency (n : Nat) (b : Bool) (d : Device) : (takeHolidayFlag n b d).emergency = d.emergency := by
  unfold takeHolidayFlag; split <;> simp
@[simp] theorem takeHolidayFlag_sign (n : Nat) (b : Bool) (d : Device) : (takeHolidayFlag n b d).sign = d.sign := by
  unfold takeHolidayFlag; split <;> simp
@[simp] theorem takeHolidayFlag_link (n : Nat) (b : Bool) (d : Device) : (takeHolidayFlag n b d).link = d.link := by
  unfold takeHolidayFlag; split <;> simp
@[simp] theorem takeHolidayFlag_items (n : Nat) (b : Bool) (d : Device) : (takeHolidayFlag n b d).items = d.items := by
  unfold takeHolidayFlag; split <;> simp
@[simp] theorem takeHolidayFlag_backed (n : Nat) (b : Bool) (d : Device) : (takeHolidayFlag n b d).backed = d.backed := by
  unfold takeHolidayFlag; split <;> simp
@[simp] theorem takeHolidayFlag_radio (n : Nat) (b : Bool) (d : Device) : (takeHolidayFlag n b d).radio = d.radio := by
  unfold takeHolidayFlag; split <;> simp
@[simp] theorem takeHolidayFlag_ahead (n : Nat) (b : Bool) (d : Device) : (takeHolidayFlag n b d).ahead = d.ahead := by
  unfold takeHolidayFlag; split <;> simp
@[simp] theorem takeHolidayFlag_draws (n : Nat) (b : Bool) (d : Device) : (takeHolidayFlag n b d).draws = d.draws := by
  unfold takeHolidayFlag; split <;> simp

@[simp] theorem clockHeader_pins (r : Reading) (b : Bool) (d : Device) : (clockHeader r b d).pins = d.pins := by
  simp only [clockHeader]; split <;> (try split) <;> (try split) <;> simp
@[simp] theorem clockHeader_store (r : Reading) (b : Bool) (d : Device) : (clockHeader r b d).store = d.store := by
  simp only [clockHeader]; split <;> (try split) <;> (try split) <;> simp
@[simp] theorem clockHeader_channel (r : Reading) (b : Bool) (d : Device) : (clockHeader r b d).channel = d.channel := by
  simp only [clockHeader]; split <;> (try split) <;> (try split) <;> simp
@[simp] theorem clockHeader_uplink (r : Reading) (b : Bool) (d : Device) : (clockHeader r b d).uplink = d.uplink := by
  simp only [clockHeader]; split <;> (try split) <;> (try split) <;> simp
@[simp] theorem clockHeader_offers (r : Reading) (b : Bool) (d : Device) : (clockHeader r b d).offers = d.offers := by
  simp only [clockHeader]; split <;> (try split) <;> (try split) <;> simp
@[simp] theorem clockHeader_mail (r : Reading) (b : Bool) (d : Device) : (clockHeader r b d).mail = d.mail := by
  simp only [clockHeader]; split <;> (try split) <;> (try split) <;> simp
@[simp] theorem clockHeader_emergency (r : Reading) (b : Bool) (d : Device) : (clockHeader r b d).emergency = d.emergency := by
  simp only [clockHeader]; split <;> (try split) <;> (try split) <;> simp
@[simp] theorem clockHeader_sign (r : Reading) (b : Bool) (d : Device) : (clockHeader r b d).sign = d.sign := by
  simp only [clockHeader]; split <;> (try split) <;> (try split) <;> simp
@[simp] theorem clockHeader_link (r : Reading) (b : Bool) (d : Device) : (clockHeader r b d).link = d.link := by
  simp only [clockHeader]; split <;> (try split) <;> (try split) <;> simp
@[simp] theorem clockHeader_items (r : Reading) (b : Bool) (d : Device) : (clockHeader r b d).items = d.items := by
  simp only [clockHeader]; split <;> (try split) <;> (try split) <;> simp
@[simp] theorem clockHeader_backed (r : Reading) (b : Bool) (d : Device) : (clockHeader r b d).backed = d.backed := by
  simp only [clockHeader]; split <;> (try split) <;> (try split) <;> simp
@[simp] theorem clockHeader_radio (r : Reading) (b : Bool) (d : Device) : (clockHeader r b d).radio = d.radio := by
  simp only [clockHeader]; split <;> (try split) <;> (try split) <;> simp
@[simp] theorem clockHeader_ahead (r : Reading) (b : Bool) (d : Device) : (clockHeader r b d).ahead = d.ahead := by
  simp only [clockHeader]; split <;> (try split) <;> (try split) <;> simp
@[simp] theorem clockHeader_draws (r : Reading) (b : Bool) (d : Device) : (clockHeader r b d).draws = d.draws := by
  simp only [clockHeader]; split <;> (try split) <;> (try split) <;> simp

@[simp] theorem samplePanic_pins (b : Bool) (d : Device) : (samplePanic b d).pins = d.pins := by
  simp only [samplePanic]; split <;> (try split) <;> (try split) <;> simp
@[simp] theorem samplePanic_tariff (b : Bool) (d : Device) : (samplePanic b d).tariff = d.tariff := by
  simp only [samplePanic]; split <;> (try split) <;> (try split) <;> simp
@[simp] theorem samplePanic_store (b : Bool) (d : Device) : (samplePanic b d).store = d.store := by
  simp only [samplePanic]; split <;> (try split) <;> (try split) <;> simp
@[simp] theorem samplePanic_channel (b : Bool) (d : Device) : (samplePanic b d).channel = d.channel := by
  simp only [samplePanic]; split <;> (try split) <;> (try split) <;> simp
@[simp] theorem samplePanic_sign (b : Bool) (d : Device) : (samplePanic b d).sign = d.sign := by
  simp only [samplePanic]; split <;> (try split) <;> (try split) <;> simp
@[simp] theorem samplePanic_items (b : Bool) (d : Device) : (samplePanic b d).items = d.items := by
  simp only [samplePanic]; split <;> (try split) <;> (try split) <;> simp
@[simp] theorem samplePanic_backed (b : Bool) (d : Device) : (samplePanic b d).backed = d.backed := by
  simp only [samplePanic]; split <;> (try split) <;> (try split) <;> simp
@[simp] theorem samplePanic_radio (b : Bool) (d : Device) : (samplePanic b d).radio = d.radio := by
  simp only [samplePanic]; split <;> (try split) <;> (try split) <;> simp
@[simp] theorem samplePanic_ahead (b : Bool) (d : Device) : (samplePanic b d).ahead = d.ahead := by
  simp only [samplePanic]; split <;> (try split) <;> (try split) <;> simp
@[simp] theorem samplePanic_draws (b : Bool) (d : Device) : (samplePanic b d).draws = d.draws := by
  simp only [samplePanic]; split <;> (try split) <;> (try split) <;> simp

@[simp] theorem takeLevel_pins (b : Bool) (d : Device) : (takeLevel b d).pins = d.pins := by
  simp only [takeLevel]; split <;> simp
@[simp] theorem takeLevel_tariff (b : Bool) (d : Device) : (takeLevel b d).tariff = d.tariff := by
  simp only [takeLevel]; split <;> simp
@[simp] theorem takeLevel_meter (b : Bool) (d : Device) : (takeLevel b d).meter = d.meter := by
  simp only [takeLevel]; split <;> simp
@[simp] theorem takeLevel_store (b : Bool) (d : Device) : (takeLevel b d).store = d.store := by
  simp only [takeLevel]; split <;> simp
@[simp] theorem takeLevel_channel (b : Bool) (d : Device) : (takeLevel b d).channel = d.channel := by
  simp only [takeLevel]; split <;> simp
@[simp] theorem takeLevel_uplink (b : Bool) (d : Device) : (takeLevel b d).uplink = d.uplink := by
  simp only [takeLevel]; split <;> simp
@[simp] theorem takeLevel_offers (b : Bool) (d : Device) : (takeLevel b d).offers = d.offers := by
  simp only [takeLevel]; split <;> simp
@[simp] theorem takeLevel_mail (b : Bool) (d : Device) : (takeLevel b d).mail = d.mail := by
  simp only [takeLevel]; split <;> simp
@[simp] theorem takeLevel_emergency (b : Bool) (d : Device) : (takeLevel b d).emergency = d.emergency := by
  simp only [takeLevel]; split <;> simp
@[simp] theorem takeLevel_sign (b : Bool) (d : Device) : (takeLevel b d).sign = d.sign := by
  simp only [takeLevel]; split <;> simp
@[simp] theorem takeLevel_link (b : Bool) (d : Device) : (takeLevel b d).link = d.link := by
  simp only [takeLevel]; split <;> simp
@[simp] theorem takeLevel_items (b : Bool) (d : Device) : (takeLevel b d).items = d.items := by
  simp only [takeLevel]; split <;> simp
@[simp] theorem takeLevel_backed (b : Bool) (d : Device) : (takeLevel b d).backed = d.backed := by
  simp only [takeLevel]; split <;> simp
@[simp] theorem takeLevel_radio (b : Bool) (d : Device) : (takeLevel b d).radio = d.radio := by
  simp only [takeLevel]; split <;> simp
@[simp] theorem takeLevel_ahead (b : Bool) (d : Device) : (takeLevel b d).ahead = d.ahead := by
  simp only [takeLevel]; split <;> simp
@[simp] theorem takeLevel_draws (b : Bool) (d : Device) : (takeLevel b d).draws = d.draws := by
  simp only [takeLevel]; split <;> simp

@[simp] theorem sampleOccupancy_pins (b : Bool) (d : Device) : (sampleOccupancy b d).pins = d.pins := by
  simp only [sampleOccupancy]; split <;> (try split) <;> simp
@[simp] theorem sampleOccupancy_tariff (b : Bool) (d : Device) : (sampleOccupancy b d).tariff = d.tariff := by
  simp only [sampleOccupancy]; split <;> (try split) <;> simp
@[simp] theorem sampleOccupancy_meter (b : Bool) (d : Device) : (sampleOccupancy b d).meter = d.meter := by
  simp only [sampleOccupancy]; split <;> (try split) <;> simp
@[simp] theorem sampleOccupancy_store (b : Bool) (d : Device) : (sampleOccupancy b d).store = d.store := by
  simp only [sampleOccupancy]; split <;> (try split) <;> simp
@[simp] theorem sampleOccupancy_channel (b : Bool) (d : Device) : (sampleOccupancy b d).channel = d.channel := by
  simp only [sampleOccupancy]; split <;> (try split) <;> simp
@[simp] theorem sampleOccupancy_uplink (b : Bool) (d : Device) : (sampleOccupancy b d).uplink = d.uplink := by
  simp only [sampleOccupancy]; split <;> (try split) <;> simp
@[simp] theorem sampleOccupancy_offers (b : Bool) (d : Device) : (sampleOccupancy b d).offers = d.offers := by
  simp only [sampleOccupancy]; split <;> (try split) <;> simp
@[simp] theorem sampleOccupancy_mail (b : Bool) (d : Device) : (sampleOccupancy b d).mail = d.mail := by
  simp only [sampleOccupancy]; split <;> (try split) <;> simp
@[simp] theorem sampleOccupancy_emergency (b : Bool) (d : Device) : (sampleOccupancy b d).emergency = d.emergency := by
  simp only [sampleOccupancy]; split <;> (try split) <;> simp
@[simp] theorem sampleOccupancy_sign (b : Bool) (d : Device) : (sampleOccupancy b d).sign = d.sign := by
  simp only [sampleOccupancy]; split <;> (try split) <;> simp
@[simp] theorem sampleOccupancy_link (b : Bool) (d : Device) : (sampleOccupancy b d).link = d.link := by
  simp only [sampleOccupancy]; split <;> (try split) <;> simp
@[simp] theorem sampleOccupancy_items (b : Bool) (d : Device) : (sampleOccupancy b d).items = d.items := by
  simp only [sampleOccupancy]; split <;> (try split) <;> simp
@[simp] theorem sampleOccupancy_backed (b : Bool) (d : Device) : (sampleOccupancy b d).backed = d.backed := by
  simp only [sampleOccupancy]; split <;> (try split) <;> simp
@[simp] theorem sampleOccupancy_radio (b : Bool) (d : Device) : (sampleOccupancy b d).radio = d.radio := by
  simp only [sampleOccupancy]; split <;> (try split) <;> simp
@[simp] theorem sampleOccupancy_ahead (b : Bool) (d : Device) : (sampleOccupancy b d).ahead = d.ahead := by
  simp only [sampleOccupancy]; split <;> (try split) <;> simp
@[simp] theorem sampleOccupancy_draws (b : Bool) (d : Device) : (sampleOccupancy b d).draws = d.draws := by
  simp only [sampleOccupancy]; split <;> (try split) <;> simp

/-! ### The Channel Controller -/

@[simp] theorem regNotice_pins (c : RegCause) (b : Device) (d : Device) : (regNotice c b d).pins = d.pins := by
  simp [regNotice]
@[simp] theorem regNotice_vehicle (c : RegCause) (b : Device) (d : Device) : (regNotice c b d).vehicle = d.vehicle := by
  simp [regNotice]
@[simp] theorem regNotice_tariff (c : RegCause) (b : Device) (d : Device) : (regNotice c b d).tariff = d.tariff := by
  simp [regNotice]
@[simp] theorem regNotice_meter (c : RegCause) (b : Device) (d : Device) : (regNotice c b d).meter = d.meter := by
  simp [regNotice]
@[simp] theorem regNotice_store (c : RegCause) (b : Device) (d : Device) : (regNotice c b d).store = d.store := by
  simp [regNotice]
@[simp] theorem regNotice_channel (c : RegCause) (b : Device) (d : Device) : (regNotice c b d).channel = d.channel := by
  simp [regNotice]
@[simp] theorem regNotice_uplink (c : RegCause) (b : Device) (d : Device) : (regNotice c b d).uplink = d.uplink := by
  simp [regNotice]
@[simp] theorem regNotice_offers (c : RegCause) (b : Device) (d : Device) : (regNotice c b d).offers = d.offers := by
  simp [regNotice]
@[simp] theorem regNotice_mail (c : RegCause) (b : Device) (d : Device) : (regNotice c b d).mail = d.mail := by
  simp [regNotice]
@[simp] theorem regNotice_emergency (c : RegCause) (b : Device) (d : Device) : (regNotice c b d).emergency = d.emergency := by
  simp [regNotice]
@[simp] theorem regNotice_sign (c : RegCause) (b : Device) (d : Device) : (regNotice c b d).sign = d.sign := by
  simp [regNotice]
@[simp] theorem regNotice_items (c : RegCause) (b : Device) (d : Device) : (regNotice c b d).items = d.items := by
  simp [regNotice]
@[simp] theorem regNotice_backed (c : RegCause) (b : Device) (d : Device) : (regNotice c b d).backed = d.backed := by
  simp [regNotice]
@[simp] theorem regNotice_radio (c : RegCause) (b : Device) (d : Device) : (regNotice c b d).radio = d.radio := by
  simp [regNotice]
@[simp] theorem regNotice_ahead (c : RegCause) (b : Device) (d : Device) : (regNotice c b d).ahead = d.ahead := by
  simp [regNotice]
@[simp] theorem regNotice_draws (c : RegCause) (b : Device) (d : Device) : (regNotice c b d).draws = d.draws := by
  simp [regNotice]

@[simp] theorem forfeit_pins (d : Device) : (forfeit d).pins = d.pins := by
  simp [forfeit]
@[simp] theorem forfeit_vehicle (d : Device) : (forfeit d).vehicle = d.vehicle := by
  simp [forfeit]
@[simp] theorem forfeit_tariff (d : Device) : (forfeit d).tariff = d.tariff := by
  simp [forfeit]
@[simp] theorem forfeit_meter (d : Device) : (forfeit d).meter = d.meter := by
  simp [forfeit]
@[simp] theorem forfeit_emergency (d : Device) : (forfeit d).emergency = d.emergency := by
  simp [forfeit]
@[simp] theorem forfeit_sign (d : Device) : (forfeit d).sign = d.sign := by
  simp [forfeit]
@[simp] theorem forfeit_items (d : Device) : (forfeit d).items = d.items := by
  simp [forfeit]
@[simp] theorem forfeit_backed (d : Device) : (forfeit d).backed = d.backed := by
  simp [forfeit]
@[simp] theorem forfeit_radio (d : Device) : (forfeit d).radio = d.radio := by
  simp [forfeit]
@[simp] theorem forfeit_ahead (d : Device) : (forfeit d).ahead = d.ahead := by
  simp [forfeit]
@[simp] theorem forfeit_draws (d : Device) : (forfeit d).draws = d.draws := by
  simp [forfeit]

@[simp] theorem forfeitHeld_pins (d : Device) : (forfeitHeld d).pins = d.pins := by
  unfold forfeitHeld; split <;> simp
@[simp] theorem forfeitHeld_vehicle (d : Device) : (forfeitHeld d).vehicle = d.vehicle := by
  unfold forfeitHeld; split <;> simp
@[simp] theorem forfeitHeld_tariff (d : Device) : (forfeitHeld d).tariff = d.tariff := by
  unfold forfeitHeld; split <;> simp
@[simp] theorem forfeitHeld_meter (d : Device) : (forfeitHeld d).meter = d.meter := by
  unfold forfeitHeld; split <;> simp
@[simp] theorem forfeitHeld_emergency (d : Device) : (forfeitHeld d).emergency = d.emergency := by
  unfold forfeitHeld; split <;> simp
@[simp] theorem forfeitHeld_sign (d : Device) : (forfeitHeld d).sign = d.sign := by
  unfold forfeitHeld; split <;> simp
@[simp] theorem forfeitHeld_items (d : Device) : (forfeitHeld d).items = d.items := by
  unfold forfeitHeld; split <;> simp
@[simp] theorem forfeitHeld_backed (d : Device) : (forfeitHeld d).backed = d.backed := by
  unfold forfeitHeld; split <;> simp
@[simp] theorem forfeitHeld_radio (d : Device) : (forfeitHeld d).radio = d.radio := by
  unfold forfeitHeld; split <;> simp
@[simp] theorem forfeitHeld_ahead (d : Device) : (forfeitHeld d).ahead = d.ahead := by
  unfold forfeitHeld; split <;> simp
@[simp] theorem forfeitHeld_draws (d : Device) : (forfeitHeld d).draws = d.draws := by
  unfold forfeitHeld; split <;> simp

@[simp] theorem enterIncompatible_pins (d : Device) : (enterIncompatible d).pins = d.pins := by
  simp [enterIncompatible]
@[simp] theorem enterIncompatible_vehicle (d : Device) : (enterIncompatible d).vehicle = d.vehicle := by
  simp [enterIncompatible]
@[simp] theorem enterIncompatible_tariff (d : Device) : (enterIncompatible d).tariff = d.tariff := by
  simp [enterIncompatible]
@[simp] theorem enterIncompatible_meter (d : Device) : (enterIncompatible d).meter = d.meter := by
  simp [enterIncompatible]
@[simp] theorem enterIncompatible_emergency (d : Device) : (enterIncompatible d).emergency = d.emergency := by
  simp [enterIncompatible]
@[simp] theorem enterIncompatible_sign (d : Device) : (enterIncompatible d).sign = d.sign := by
  simp [enterIncompatible]
@[simp] theorem enterIncompatible_items (d : Device) : (enterIncompatible d).items = d.items := by
  simp [enterIncompatible]
@[simp] theorem enterIncompatible_backed (d : Device) : (enterIncompatible d).backed = d.backed := by
  simp [enterIncompatible]
@[simp] theorem enterIncompatible_radio (d : Device) : (enterIncompatible d).radio = d.radio := by
  simp [enterIncompatible]
@[simp] theorem enterIncompatible_ahead (d : Device) : (enterIncompatible d).ahead = d.ahead := by
  simp [enterIncompatible]
@[simp] theorem enterIncompatible_draws (d : Device) : (enterIncompatible d).draws = d.draws := by
  simp [enterIncompatible]

@[simp] theorem enterHold_pins (d : Device) : (enterHold d).pins = d.pins := by
  simp [enterHold]
@[simp] theorem enterHold_vehicle (d : Device) : (enterHold d).vehicle = d.vehicle := by
  simp [enterHold]
@[simp] theorem enterHold_tariff (d : Device) : (enterHold d).tariff = d.tariff := by
  simp [enterHold]
@[simp] theorem enterHold_meter (d : Device) : (enterHold d).meter = d.meter := by
  simp [enterHold]
@[simp] theorem enterHold_emergency (d : Device) : (enterHold d).emergency = d.emergency := by
  simp [enterHold]
@[simp] theorem enterHold_sign (d : Device) : (enterHold d).sign = d.sign := by
  simp [enterHold]
@[simp] theorem enterHold_items (d : Device) : (enterHold d).items = d.items := by
  simp [enterHold]
@[simp] theorem enterHold_backed (d : Device) : (enterHold d).backed = d.backed := by
  simp [enterHold]
@[simp] theorem enterHold_radio (d : Device) : (enterHold d).radio = d.radio := by
  simp [enterHold]
@[simp] theorem enterHold_ahead (d : Device) : (enterHold d).ahead = d.ahead := by
  simp [enterHold]
@[simp] theorem enterHold_draws (d : Device) : (enterHold d).draws = d.draws := by
  simp [enterHold]

@[simp] theorem enterLogonWait_pins (k : LogonKind) (d : Device) : (enterLogonWait k d).pins = d.pins := by
  simp [enterLogonWait]
@[simp] theorem enterLogonWait_vehicle (k : LogonKind) (d : Device) : (enterLogonWait k d).vehicle = d.vehicle := by
  simp [enterLogonWait]
@[simp] theorem enterLogonWait_tariff (k : LogonKind) (d : Device) : (enterLogonWait k d).tariff = d.tariff := by
  simp [enterLogonWait]
@[simp] theorem enterLogonWait_meter (k : LogonKind) (d : Device) : (enterLogonWait k d).meter = d.meter := by
  simp [enterLogonWait]
@[simp] theorem enterLogonWait_store (k : LogonKind) (d : Device) : (enterLogonWait k d).store = d.store := by
  simp [enterLogonWait]
@[simp] theorem enterLogonWait_uplink (k : LogonKind) (d : Device) : (enterLogonWait k d).uplink = d.uplink := by
  simp [enterLogonWait]
@[simp] theorem enterLogonWait_offers (k : LogonKind) (d : Device) : (enterLogonWait k d).offers = d.offers := by
  simp [enterLogonWait]
@[simp] theorem enterLogonWait_mail (k : LogonKind) (d : Device) : (enterLogonWait k d).mail = d.mail := by
  simp [enterLogonWait]
@[simp] theorem enterLogonWait_emergency (k : LogonKind) (d : Device) : (enterLogonWait k d).emergency = d.emergency := by
  simp [enterLogonWait]
@[simp] theorem enterLogonWait_sign (k : LogonKind) (d : Device) : (enterLogonWait k d).sign = d.sign := by
  simp [enterLogonWait]
@[simp] theorem enterLogonWait_link (k : LogonKind) (d : Device) : (enterLogonWait k d).link = d.link := by
  simp [enterLogonWait]
@[simp] theorem enterLogonWait_items (k : LogonKind) (d : Device) : (enterLogonWait k d).items = d.items := by
  simp [enterLogonWait]
@[simp] theorem enterLogonWait_backed (k : LogonKind) (d : Device) : (enterLogonWait k d).backed = d.backed := by
  simp [enterLogonWait]
@[simp] theorem enterLogonWait_radio (k : LogonKind) (d : Device) : (enterLogonWait k d).radio = d.radio := by
  simp [enterLogonWait]
@[simp] theorem enterLogonWait_ahead (k : LogonKind) (d : Device) : (enterLogonWait k d).ahead = d.ahead := by
  simp [enterLogonWait]
@[simp] theorem enterLogonWait_draws (k : LogonKind) (d : Device) : (enterLogonWait k d).draws = d.draws := by
  simp [enterLogonWait]

@[simp] theorem enterLost_pins (d : Device) : (enterLost d).pins = d.pins := by
  simp only [enterLost]; split <;> simp
@[simp] theorem enterLost_vehicle (d : Device) : (enterLost d).vehicle = d.vehicle := by
  simp only [enterLost]; split <;> simp
@[simp] theorem enterLost_tariff (d : Device) : (enterLost d).tariff = d.tariff := by
  simp only [enterLost]; split <;> simp
@[simp] theorem enterLost_meter (d : Device) : (enterLost d).meter = d.meter := by
  simp only [enterLost]; split <;> simp
@[simp] theorem enterLost_offers (d : Device) : (enterLost d).offers = d.offers := by
  simp only [enterLost]; split <;> simp
@[simp] theorem enterLost_mail (d : Device) : (enterLost d).mail = d.mail := by
  simp only [enterLost]; split <;> simp
@[simp] theorem enterLost_emergency (d : Device) : (enterLost d).emergency = d.emergency := by
  simp only [enterLost]; split <;> simp
@[simp] theorem enterLost_sign (d : Device) : (enterLost d).sign = d.sign := by
  simp only [enterLost]; split <;> simp
@[simp] theorem enterLost_link (d : Device) : (enterLost d).link = d.link := by
  simp only [enterLost]; split <;> simp
@[simp] theorem enterLost_items (d : Device) : (enterLost d).items = d.items := by
  simp only [enterLost]; split <;> simp
@[simp] theorem enterLost_backed (d : Device) : (enterLost d).backed = d.backed := by
  simp only [enterLost]; split <;> simp
@[simp] theorem enterLost_radio (d : Device) : (enterLost d).radio = d.radio := by
  simp only [enterLost]; split <;> simp
@[simp] theorem enterLost_ahead (d : Device) : (enterLost d).ahead = d.ahead := by
  simp only [enterLost]; split <;> simp
@[simp] theorem enterLost_draws (d : Device) : (enterLost d).draws = d.draws := by
  simp only [enterLost]; split <;> simp

@[simp] theorem dropRegistration_pins (d : Device) : (dropRegistration d).pins = d.pins := by
  simp [dropRegistration]
@[simp] theorem dropRegistration_vehicle (d : Device) : (dropRegistration d).vehicle = d.vehicle := by
  simp [dropRegistration]
@[simp] theorem dropRegistration_tariff (d : Device) : (dropRegistration d).tariff = d.tariff := by
  simp [dropRegistration]
@[simp] theorem dropRegistration_meter (d : Device) : (dropRegistration d).meter = d.meter := by
  simp [dropRegistration]
@[simp] theorem dropRegistration_emergency (d : Device) : (dropRegistration d).emergency = d.emergency := by
  simp [dropRegistration]
@[simp] theorem dropRegistration_sign (d : Device) : (dropRegistration d).sign = d.sign := by
  simp [dropRegistration]
@[simp] theorem dropRegistration_items (d : Device) : (dropRegistration d).items = d.items := by
  simp [dropRegistration]
@[simp] theorem dropRegistration_backed (d : Device) : (dropRegistration d).backed = d.backed := by
  simp [dropRegistration]
@[simp] theorem dropRegistration_radio (d : Device) : (dropRegistration d).radio = d.radio := by
  simp [dropRegistration]
@[simp] theorem dropRegistration_ahead (d : Device) : (dropRegistration d).ahead = d.ahead := by
  simp [dropRegistration]
@[simp] theorem dropRegistration_draws (d : Device) : (dropRegistration d).draws = d.draws := by
  simp [dropRegistration]

@[simp] theorem enterBarred_pins (d : Device) : (enterBarred d).pins = d.pins := by
  simp only [enterBarred]; split <;> simp
@[simp] theorem enterBarred_vehicle (d : Device) : (enterBarred d).vehicle = d.vehicle := by
  simp only [enterBarred]; split <;> simp
@[simp] theorem enterBarred_tariff (d : Device) : (enterBarred d).tariff = d.tariff := by
  simp only [enterBarred]; split <;> simp
@[simp] theorem enterBarred_meter (d : Device) : (enterBarred d).meter = d.meter := by
  simp only [enterBarred]; split <;> simp
@[simp] theorem enterBarred_emergency (d : Device) : (enterBarred d).emergency = d.emergency := by
  simp only [enterBarred]; split <;> simp
@[simp] theorem enterBarred_sign (d : Device) : (enterBarred d).sign = d.sign := by
  simp only [enterBarred]; split <;> simp
@[simp] theorem enterBarred_items (d : Device) : (enterBarred d).items = d.items := by
  simp only [enterBarred]; split <;> simp
@[simp] theorem enterBarred_backed (d : Device) : (enterBarred d).backed = d.backed := by
  simp only [enterBarred]; split <;> simp
@[simp] theorem enterBarred_radio (d : Device) : (enterBarred d).radio = d.radio := by
  simp only [enterBarred]; split <;> simp
@[simp] theorem enterBarred_ahead (d : Device) : (enterBarred d).ahead = d.ahead := by
  simp only [enterBarred]; split <;> simp
@[simp] theorem enterBarred_draws (d : Device) : (enterBarred d).draws = d.draws := by
  simp only [enterBarred]; split <;> simp

@[simp] theorem takeBar_pins (d : Device) : (takeBar d).pins = d.pins := by
  unfold takeBar; split <;> simp
@[simp] theorem takeBar_vehicle (d : Device) : (takeBar d).vehicle = d.vehicle := by
  unfold takeBar; split <;> simp
@[simp] theorem takeBar_tariff (d : Device) : (takeBar d).tariff = d.tariff := by
  unfold takeBar; split <;> simp
@[simp] theorem takeBar_meter (d : Device) : (takeBar d).meter = d.meter := by
  unfold takeBar; split <;> simp
@[simp] theorem takeBar_emergency (d : Device) : (takeBar d).emergency = d.emergency := by
  unfold takeBar; split <;> simp
@[simp] theorem takeBar_sign (d : Device) : (takeBar d).sign = d.sign := by
  unfold takeBar; split <;> simp
@[simp] theorem takeBar_items (d : Device) : (takeBar d).items = d.items := by
  unfold takeBar; split <;> simp
@[simp] theorem takeBar_backed (d : Device) : (takeBar d).backed = d.backed := by
  unfold takeBar; split <;> simp
@[simp] theorem takeBar_radio (d : Device) : (takeBar d).radio = d.radio := by
  unfold takeBar; split <;> simp
@[simp] theorem takeBar_ahead (d : Device) : (takeBar d).ahead = d.ahead := by
  unfold takeBar; split <;> simp
@[simp] theorem takeBar_draws (d : Device) : (takeBar d).draws = d.draws := by
  unfold takeBar; split <;> simp

@[simp] theorem takeUnbar_pins (d : Device) : (takeUnbar d).pins = d.pins := by
  unfold takeUnbar; split <;> (try split) <;> simp
@[simp] theorem takeUnbar_vehicle (d : Device) : (takeUnbar d).vehicle = d.vehicle := by
  unfold takeUnbar; split <;> (try split) <;> simp
@[simp] theorem takeUnbar_tariff (d : Device) : (takeUnbar d).tariff = d.tariff := by
  unfold takeUnbar; split <;> (try split) <;> simp
@[simp] theorem takeUnbar_meter (d : Device) : (takeUnbar d).meter = d.meter := by
  unfold takeUnbar; split <;> (try split) <;> simp
@[simp] theorem takeUnbar_store (d : Device) : (takeUnbar d).store = d.store := by
  unfold takeUnbar; split <;> (try split) <;> simp
@[simp] theorem takeUnbar_uplink (d : Device) : (takeUnbar d).uplink = d.uplink := by
  unfold takeUnbar; split <;> (try split) <;> simp
@[simp] theorem takeUnbar_offers (d : Device) : (takeUnbar d).offers = d.offers := by
  unfold takeUnbar; split <;> (try split) <;> simp
@[simp] theorem takeUnbar_mail (d : Device) : (takeUnbar d).mail = d.mail := by
  unfold takeUnbar; split <;> (try split) <;> simp
@[simp] theorem takeUnbar_emergency (d : Device) : (takeUnbar d).emergency = d.emergency := by
  unfold takeUnbar; split <;> (try split) <;> simp
@[simp] theorem takeUnbar_sign (d : Device) : (takeUnbar d).sign = d.sign := by
  unfold takeUnbar; split <;> (try split) <;> simp
@[simp] theorem takeUnbar_items (d : Device) : (takeUnbar d).items = d.items := by
  unfold takeUnbar; split <;> (try split) <;> simp
@[simp] theorem takeUnbar_backed (d : Device) : (takeUnbar d).backed = d.backed := by
  unfold takeUnbar; split <;> (try split) <;> simp
@[simp] theorem takeUnbar_radio (d : Device) : (takeUnbar d).radio = d.radio := by
  unfold takeUnbar; split <;> (try split) <;> simp
@[simp] theorem takeUnbar_ahead (d : Device) : (takeUnbar d).ahead = d.ahead := by
  unfold takeUnbar; split <;> (try split) <;> simp
@[simp] theorem takeUnbar_draws (d : Device) : (takeUnbar d).draws = d.draws := by
  unfold takeUnbar; split <;> (try split) <;> simp

@[simp] theorem takeNetworkReset_pins (d : Device) : (takeNetworkReset d).pins = d.pins := by
  unfold takeNetworkReset; split <;> simp
@[simp] theorem takeNetworkReset_vehicle (d : Device) : (takeNetworkReset d).vehicle = d.vehicle := by
  unfold takeNetworkReset; split <;> simp
@[simp] theorem takeNetworkReset_tariff (d : Device) : (takeNetworkReset d).tariff = d.tariff := by
  unfold takeNetworkReset; split <;> simp
@[simp] theorem takeNetworkReset_meter (d : Device) : (takeNetworkReset d).meter = d.meter := by
  unfold takeNetworkReset; split <;> simp
@[simp] theorem takeNetworkReset_emergency (d : Device) : (takeNetworkReset d).emergency = d.emergency := by
  unfold takeNetworkReset; split <;> simp
@[simp] theorem takeNetworkReset_sign (d : Device) : (takeNetworkReset d).sign = d.sign := by
  unfold takeNetworkReset; split <;> simp
@[simp] theorem takeNetworkReset_items (d : Device) : (takeNetworkReset d).items = d.items := by
  unfold takeNetworkReset; split <;> simp
@[simp] theorem takeNetworkReset_backed (d : Device) : (takeNetworkReset d).backed = d.backed := by
  unfold takeNetworkReset; split <;> simp
@[simp] theorem takeNetworkReset_radio (d : Device) : (takeNetworkReset d).radio = d.radio := by
  unfold takeNetworkReset; split <;> simp
@[simp] theorem takeNetworkReset_ahead (d : Device) : (takeNetworkReset d).ahead = d.ahead := by
  unfold takeNetworkReset; split <;> simp
@[simp] theorem takeNetworkReset_draws (d : Device) : (takeNetworkReset d).draws = d.draws := by
  unfold takeNetworkReset; split <;> simp

@[simp] theorem assignLogon_pins (n : Nat) (d : Device) : (assignLogon n d).pins = d.pins := by
  simp [assignLogon]
@[simp] theorem assignLogon_vehicle (n : Nat) (d : Device) : (assignLogon n d).vehicle = d.vehicle := by
  simp [assignLogon]
@[simp] theorem assignLogon_tariff (n : Nat) (d : Device) : (assignLogon n d).tariff = d.tariff := by
  simp [assignLogon]
@[simp] theorem assignLogon_meter (n : Nat) (d : Device) : (assignLogon n d).meter = d.meter := by
  simp [assignLogon]
@[simp] theorem assignLogon_store (n : Nat) (d : Device) : (assignLogon n d).store = d.store := by
  simp [assignLogon]
@[simp] theorem assignLogon_uplink (n : Nat) (d : Device) : (assignLogon n d).uplink = d.uplink := by
  simp [assignLogon]
@[simp] theorem assignLogon_offers (n : Nat) (d : Device) : (assignLogon n d).offers = d.offers := by
  simp [assignLogon]
@[simp] theorem assignLogon_mail (n : Nat) (d : Device) : (assignLogon n d).mail = d.mail := by
  simp [assignLogon]
@[simp] theorem assignLogon_emergency (n : Nat) (d : Device) : (assignLogon n d).emergency = d.emergency := by
  simp [assignLogon]
@[simp] theorem assignLogon_sign (n : Nat) (d : Device) : (assignLogon n d).sign = d.sign := by
  simp [assignLogon]
@[simp] theorem assignLogon_link (n : Nat) (d : Device) : (assignLogon n d).link = d.link := by
  simp [assignLogon]
@[simp] theorem assignLogon_items (n : Nat) (d : Device) : (assignLogon n d).items = d.items := by
  simp [assignLogon]
@[simp] theorem assignLogon_backed (n : Nat) (d : Device) : (assignLogon n d).backed = d.backed := by
  simp [assignLogon]
@[simp] theorem assignLogon_radio (n : Nat) (d : Device) : (assignLogon n d).radio = d.radio := by
  simp [assignLogon]
@[simp] theorem assignLogon_ahead (n : Nat) (d : Device) : (assignLogon n d).ahead = d.ahead := by
  simp [assignLogon]
@[simp] theorem assignLogon_draws (n : Nat) (d : Device) : (assignLogon n d).draws = d.draws := by
  simp [assignLogon]

@[simp] theorem assignAddress_pins (n : Nat) (d : Device) : (assignAddress n d).pins = d.pins := by
  unfold assignAddress; split <;> (try split) <;> simp
@[simp] theorem assignAddress_vehicle (n : Nat) (d : Device) : (assignAddress n d).vehicle = d.vehicle := by
  unfold assignAddress; split <;> (try split) <;> simp
@[simp] theorem assignAddress_tariff (n : Nat) (d : Device) : (assignAddress n d).tariff = d.tariff := by
  unfold assignAddress; split <;> (try split) <;> simp
@[simp] theorem assignAddress_meter (n : Nat) (d : Device) : (assignAddress n d).meter = d.meter := by
  unfold assignAddress; split <;> (try split) <;> simp
@[simp] theorem assignAddress_offers (n : Nat) (d : Device) : (assignAddress n d).offers = d.offers := by
  unfold assignAddress; split <;> (try split) <;> simp
@[simp] theorem assignAddress_mail (n : Nat) (d : Device) : (assignAddress n d).mail = d.mail := by
  unfold assignAddress; split <;> (try split) <;> simp
@[simp] theorem assignAddress_emergency (n : Nat) (d : Device) : (assignAddress n d).emergency = d.emergency := by
  unfold assignAddress; split <;> (try split) <;> simp
@[simp] theorem assignAddress_sign (n : Nat) (d : Device) : (assignAddress n d).sign = d.sign := by
  unfold assignAddress; split <;> (try split) <;> simp
@[simp] theorem assignAddress_link (n : Nat) (d : Device) : (assignAddress n d).link = d.link := by
  unfold assignAddress; split <;> (try split) <;> simp
@[simp] theorem assignAddress_items (n : Nat) (d : Device) : (assignAddress n d).items = d.items := by
  unfold assignAddress; split <;> (try split) <;> simp
@[simp] theorem assignAddress_backed (n : Nat) (d : Device) : (assignAddress n d).backed = d.backed := by
  unfold assignAddress; split <;> (try split) <;> simp
@[simp] theorem assignAddress_radio (n : Nat) (d : Device) : (assignAddress n d).radio = d.radio := by
  unfold assignAddress; split <;> (try split) <;> simp
@[simp] theorem assignAddress_ahead (n : Nat) (d : Device) : (assignAddress n d).ahead = d.ahead := by
  unfold assignAddress; split <;> (try split) <;> simp
@[simp] theorem assignAddress_draws (n : Nat) (d : Device) : (assignAddress n d).draws = d.draws := by
  unfold assignAddress; split <;> (try split) <;> simp

@[simp] theorem takeAssign_pins (n : Nat) (d : Device) : (takeAssign n d).pins = d.pins := by
  unfold takeAssign; split <;> simp
@[simp] theorem takeAssign_vehicle (n : Nat) (d : Device) : (takeAssign n d).vehicle = d.vehicle := by
  unfold takeAssign; split <;> simp
@[simp] theorem takeAssign_tariff (n : Nat) (d : Device) : (takeAssign n d).tariff = d.tariff := by
  unfold takeAssign; split <;> simp
@[simp] theorem takeAssign_meter (n : Nat) (d : Device) : (takeAssign n d).meter = d.meter := by
  unfold takeAssign; split <;> simp
@[simp] theorem takeAssign_offers (n : Nat) (d : Device) : (takeAssign n d).offers = d.offers := by
  unfold takeAssign; split <;> simp
@[simp] theorem takeAssign_mail (n : Nat) (d : Device) : (takeAssign n d).mail = d.mail := by
  unfold takeAssign; split <;> simp
@[simp] theorem takeAssign_emergency (n : Nat) (d : Device) : (takeAssign n d).emergency = d.emergency := by
  unfold takeAssign; split <;> simp
@[simp] theorem takeAssign_sign (n : Nat) (d : Device) : (takeAssign n d).sign = d.sign := by
  unfold takeAssign; split <;> simp
@[simp] theorem takeAssign_items (n : Nat) (d : Device) : (takeAssign n d).items = d.items := by
  unfold takeAssign; split <;> simp
@[simp] theorem takeAssign_backed (n : Nat) (d : Device) : (takeAssign n d).backed = d.backed := by
  unfold takeAssign; split <;> simp
@[simp] theorem takeAssign_radio (n : Nat) (d : Device) : (takeAssign n d).radio = d.radio := by
  unfold takeAssign; split <;> simp
@[simp] theorem takeAssign_ahead (n : Nat) (d : Device) : (takeAssign n d).ahead = d.ahead := by
  unfold takeAssign; split <;> simp
@[simp] theorem takeAssign_draws (n : Nat) (d : Device) : (takeAssign n d).draws = d.draws := by
  unfold takeAssign; split <;> simp

@[simp] theorem lostPeriodEnds_pins (d : Device) : (lostPeriodEnds d).pins = d.pins := by
  simp [lostPeriodEnds]
@[simp] theorem lostPeriodEnds_vehicle (d : Device) : (lostPeriodEnds d).vehicle = d.vehicle := by
  simp [lostPeriodEnds]
@[simp] theorem lostPeriodEnds_tariff (d : Device) : (lostPeriodEnds d).tariff = d.tariff := by
  simp [lostPeriodEnds]
@[simp] theorem lostPeriodEnds_meter (d : Device) : (lostPeriodEnds d).meter = d.meter := by
  simp [lostPeriodEnds]
@[simp] theorem lostPeriodEnds_emergency (d : Device) : (lostPeriodEnds d).emergency = d.emergency := by
  simp [lostPeriodEnds]
@[simp] theorem lostPeriodEnds_sign (d : Device) : (lostPeriodEnds d).sign = d.sign := by
  simp [lostPeriodEnds]
@[simp] theorem lostPeriodEnds_items (d : Device) : (lostPeriodEnds d).items = d.items := by
  simp [lostPeriodEnds]
@[simp] theorem lostPeriodEnds_backed (d : Device) : (lostPeriodEnds d).backed = d.backed := by
  simp [lostPeriodEnds]
@[simp] theorem lostPeriodEnds_radio (d : Device) : (lostPeriodEnds d).radio = d.radio := by
  simp [lostPeriodEnds]
@[simp] theorem lostPeriodEnds_ahead (d : Device) : (lostPeriodEnds d).ahead = d.ahead := by
  simp [lostPeriodEnds]
@[simp] theorem lostPeriodEnds_draws (d : Device) : (lostPeriodEnds d).draws = d.draws := by
  simp [lostPeriodEnds]

@[simp] theorem lostTick_pins (d : Device) : (lostTick d).pins = d.pins := by
  unfold lostTick; split <;> (try split) <;> simp
@[simp] theorem lostTick_vehicle (d : Device) : (lostTick d).vehicle = d.vehicle := by
  unfold lostTick; split <;> (try split) <;> simp
@[simp] theorem lostTick_tariff (d : Device) : (lostTick d).tariff = d.tariff := by
  unfold lostTick; split <;> (try split) <;> simp
@[simp] theorem lostTick_meter (d : Device) : (lostTick d).meter = d.meter := by
  unfold lostTick; split <;> (try split) <;> simp
@[simp] theorem lostTick_emergency (d : Device) : (lostTick d).emergency = d.emergency := by
  unfold lostTick; split <;> (try split) <;> simp
@[simp] theorem lostTick_sign (d : Device) : (lostTick d).sign = d.sign := by
  unfold lostTick; split <;> (try split) <;> simp
@[simp] theorem lostTick_items (d : Device) : (lostTick d).items = d.items := by
  unfold lostTick; split <;> (try split) <;> simp
@[simp] theorem lostTick_backed (d : Device) : (lostTick d).backed = d.backed := by
  unfold lostTick; split <;> (try split) <;> simp
@[simp] theorem lostTick_radio (d : Device) : (lostTick d).radio = d.radio := by
  unfold lostTick; split <;> (try split) <;> simp
@[simp] theorem lostTick_ahead (d : Device) : (lostTick d).ahead = d.ahead := by
  unfold lostTick; split <;> (try split) <;> simp
@[simp] theorem lostTick_draws (d : Device) : (lostTick d).draws = d.draws := by
  unfold lostTick; split <;> (try split) <;> simp

@[simp] theorem lossEnds_pins (d : Device) : (lossEnds d).pins = d.pins := by
  simp [lossEnds]
@[simp] theorem lossEnds_vehicle (d : Device) : (lossEnds d).vehicle = d.vehicle := by
  simp [lossEnds]
@[simp] theorem lossEnds_tariff (d : Device) : (lossEnds d).tariff = d.tariff := by
  simp [lossEnds]
@[simp] theorem lossEnds_meter (d : Device) : (lossEnds d).meter = d.meter := by
  simp [lossEnds]
@[simp] theorem lossEnds_offers (d : Device) : (lossEnds d).offers = d.offers := by
  simp [lossEnds]
@[simp] theorem lossEnds_mail (d : Device) : (lossEnds d).mail = d.mail := by
  simp [lossEnds]
@[simp] theorem lossEnds_emergency (d : Device) : (lossEnds d).emergency = d.emergency := by
  simp [lossEnds]
@[simp] theorem lossEnds_sign (d : Device) : (lossEnds d).sign = d.sign := by
  simp [lossEnds]
@[simp] theorem lossEnds_items (d : Device) : (lossEnds d).items = d.items := by
  simp [lossEnds]
@[simp] theorem lossEnds_backed (d : Device) : (lossEnds d).backed = d.backed := by
  simp [lossEnds]
@[simp] theorem lossEnds_radio (d : Device) : (lossEnds d).radio = d.radio := by
  simp [lossEnds]
@[simp] theorem lossEnds_ahead (d : Device) : (lossEnds d).ahead = d.ahead := by
  simp [lossEnds]
@[simp] theorem lossEnds_draws (d : Device) : (lossEnds d).draws = d.draws := by
  simp [lossEnds]

@[simp] theorem lossTick_pins (d : Device) : (lossTick d).pins = d.pins := by
  simp only [lossTick]; split <;> (try split) <;> simp
@[simp] theorem lossTick_vehicle (d : Device) : (lossTick d).vehicle = d.vehicle := by
  simp only [lossTick]; split <;> (try split) <;> simp
@[simp] theorem lossTick_tariff (d : Device) : (lossTick d).tariff = d.tariff := by
  simp only [lossTick]; split <;> (try split) <;> simp
@[simp] theorem lossTick_meter (d : Device) : (lossTick d).meter = d.meter := by
  simp only [lossTick]; split <;> (try split) <;> simp
@[simp] theorem lossTick_offers (d : Device) : (lossTick d).offers = d.offers := by
  simp only [lossTick]; split <;> (try split) <;> simp
@[simp] theorem lossTick_mail (d : Device) : (lossTick d).mail = d.mail := by
  simp only [lossTick]; split <;> (try split) <;> simp
@[simp] theorem lossTick_emergency (d : Device) : (lossTick d).emergency = d.emergency := by
  simp only [lossTick]; split <;> (try split) <;> simp
@[simp] theorem lossTick_sign (d : Device) : (lossTick d).sign = d.sign := by
  simp only [lossTick]; split <;> (try split) <;> simp
@[simp] theorem lossTick_items (d : Device) : (lossTick d).items = d.items := by
  simp only [lossTick]; split <;> (try split) <;> simp
@[simp] theorem lossTick_backed (d : Device) : (lossTick d).backed = d.backed := by
  simp only [lossTick]; split <;> (try split) <;> simp
@[simp] theorem lossTick_radio (d : Device) : (lossTick d).radio = d.radio := by
  simp only [lossTick]; split <;> (try split) <;> simp
@[simp] theorem lossTick_ahead (d : Device) : (lossTick d).ahead = d.ahead := by
  simp only [lossTick]; split <;> (try split) <;> simp
@[simp] theorem lossTick_draws (d : Device) : (lossTick d).draws = d.draws := by
  simp only [lossTick]; split <;> (try split) <;> simp

@[simp] theorem logonHoldEnds_pins (d : Device) : (logonHoldEnds d).pins = d.pins := by
  simp [logonHoldEnds]
@[simp] theorem logonHoldEnds_vehicle (d : Device) : (logonHoldEnds d).vehicle = d.vehicle := by
  simp [logonHoldEnds]
@[simp] theorem logonHoldEnds_tariff (d : Device) : (logonHoldEnds d).tariff = d.tariff := by
  simp [logonHoldEnds]
@[simp] theorem logonHoldEnds_meter (d : Device) : (logonHoldEnds d).meter = d.meter := by
  simp [logonHoldEnds]
@[simp] theorem logonHoldEnds_store (d : Device) : (logonHoldEnds d).store = d.store := by
  simp [logonHoldEnds]
@[simp] theorem logonHoldEnds_uplink (d : Device) : (logonHoldEnds d).uplink = d.uplink := by
  simp [logonHoldEnds]
@[simp] theorem logonHoldEnds_offers (d : Device) : (logonHoldEnds d).offers = d.offers := by
  simp [logonHoldEnds]
@[simp] theorem logonHoldEnds_mail (d : Device) : (logonHoldEnds d).mail = d.mail := by
  simp [logonHoldEnds]
@[simp] theorem logonHoldEnds_emergency (d : Device) : (logonHoldEnds d).emergency = d.emergency := by
  simp [logonHoldEnds]
@[simp] theorem logonHoldEnds_sign (d : Device) : (logonHoldEnds d).sign = d.sign := by
  simp [logonHoldEnds]
@[simp] theorem logonHoldEnds_items (d : Device) : (logonHoldEnds d).items = d.items := by
  simp [logonHoldEnds]
@[simp] theorem logonHoldEnds_backed (d : Device) : (logonHoldEnds d).backed = d.backed := by
  simp [logonHoldEnds]
@[simp] theorem logonHoldEnds_radio (d : Device) : (logonHoldEnds d).radio = d.radio := by
  simp [logonHoldEnds]
@[simp] theorem logonHoldEnds_ahead (d : Device) : (logonHoldEnds d).ahead = d.ahead := by
  simp [logonHoldEnds]
@[simp] theorem logonHoldEnds_draws (d : Device) : (logonHoldEnds d).draws = d.draws := by
  simp [logonHoldEnds]

@[simp] theorem logonHoldTick_pins (d : Device) : (logonHoldTick d).pins = d.pins := by
  unfold logonHoldTick; split <;> (try split) <;> simp
@[simp] theorem logonHoldTick_vehicle (d : Device) : (logonHoldTick d).vehicle = d.vehicle := by
  unfold logonHoldTick; split <;> (try split) <;> simp
@[simp] theorem logonHoldTick_tariff (d : Device) : (logonHoldTick d).tariff = d.tariff := by
  unfold logonHoldTick; split <;> (try split) <;> simp
@[simp] theorem logonHoldTick_meter (d : Device) : (logonHoldTick d).meter = d.meter := by
  unfold logonHoldTick; split <;> (try split) <;> simp
@[simp] theorem logonHoldTick_store (d : Device) : (logonHoldTick d).store = d.store := by
  unfold logonHoldTick; split <;> (try split) <;> simp
@[simp] theorem logonHoldTick_uplink (d : Device) : (logonHoldTick d).uplink = d.uplink := by
  unfold logonHoldTick; split <;> (try split) <;> simp
@[simp] theorem logonHoldTick_offers (d : Device) : (logonHoldTick d).offers = d.offers := by
  unfold logonHoldTick; split <;> (try split) <;> simp
@[simp] theorem logonHoldTick_mail (d : Device) : (logonHoldTick d).mail = d.mail := by
  unfold logonHoldTick; split <;> (try split) <;> simp
@[simp] theorem logonHoldTick_emergency (d : Device) : (logonHoldTick d).emergency = d.emergency := by
  unfold logonHoldTick; split <;> (try split) <;> simp
@[simp] theorem logonHoldTick_sign (d : Device) : (logonHoldTick d).sign = d.sign := by
  unfold logonHoldTick; split <;> (try split) <;> simp
@[simp] theorem logonHoldTick_items (d : Device) : (logonHoldTick d).items = d.items := by
  unfold logonHoldTick; split <;> (try split) <;> simp
@[simp] theorem logonHoldTick_backed (d : Device) : (logonHoldTick d).backed = d.backed := by
  unfold logonHoldTick; split <;> (try split) <;> simp
@[simp] theorem logonHoldTick_radio (d : Device) : (logonHoldTick d).radio = d.radio := by
  unfold logonHoldTick; split <;> (try split) <;> simp
@[simp] theorem logonHoldTick_ahead (d : Device) : (logonHoldTick d).ahead = d.ahead := by
  unfold logonHoldTick; split <;> (try split) <;> simp
@[simp] theorem logonHoldTick_draws (d : Device) : (logonHoldTick d).draws = d.draws := by
  unfold logonHoldTick; split <;> (try split) <;> simp

@[simp] theorem channelTick_pins (d : Device) : (channelTick d).pins = d.pins := by
  simp [channelTick]
@[simp] theorem channelTick_vehicle (d : Device) : (channelTick d).vehicle = d.vehicle := by
  simp [channelTick]
@[simp] theorem channelTick_tariff (d : Device) : (channelTick d).tariff = d.tariff := by
  simp [channelTick]
@[simp] theorem channelTick_meter (d : Device) : (channelTick d).meter = d.meter := by
  simp [channelTick]
@[simp] theorem channelTick_emergency (d : Device) : (channelTick d).emergency = d.emergency := by
  simp [channelTick]
@[simp] theorem channelTick_sign (d : Device) : (channelTick d).sign = d.sign := by
  simp [channelTick]
@[simp] theorem channelTick_items (d : Device) : (channelTick d).items = d.items := by
  simp [channelTick]
@[simp] theorem channelTick_backed (d : Device) : (channelTick d).backed = d.backed := by
  simp [channelTick]
@[simp] theorem channelTick_radio (d : Device) : (channelTick d).radio = d.radio := by
  simp [channelTick]
@[simp] theorem channelTick_ahead (d : Device) : (channelTick d).ahead = d.ahead := by
  simp [channelTick]
@[simp] theorem channelTick_draws (d : Device) : (channelTick d).draws = d.draws := by
  simp [channelTick]

@[simp] theorem endCollecting_pins (d : Device) : (endCollecting d).pins = d.pins := by
  unfold endCollecting; split <;> simp
@[simp] theorem endCollecting_vehicle (d : Device) : (endCollecting d).vehicle = d.vehicle := by
  unfold endCollecting; split <;> simp
@[simp] theorem endCollecting_tariff (d : Device) : (endCollecting d).tariff = d.tariff := by
  unfold endCollecting; split <;> simp
@[simp] theorem endCollecting_meter (d : Device) : (endCollecting d).meter = d.meter := by
  unfold endCollecting; split <;> simp
@[simp] theorem endCollecting_store (d : Device) : (endCollecting d).store = d.store := by
  unfold endCollecting; split <;> simp
@[simp] theorem endCollecting_uplink (d : Device) : (endCollecting d).uplink = d.uplink := by
  unfold endCollecting; split <;> simp
@[simp] theorem endCollecting_offers (d : Device) : (endCollecting d).offers = d.offers := by
  unfold endCollecting; split <;> simp
@[simp] theorem endCollecting_mail (d : Device) : (endCollecting d).mail = d.mail := by
  unfold endCollecting; split <;> simp
@[simp] theorem endCollecting_emergency (d : Device) : (endCollecting d).emergency = d.emergency := by
  unfold endCollecting; split <;> simp
@[simp] theorem endCollecting_sign (d : Device) : (endCollecting d).sign = d.sign := by
  unfold endCollecting; split <;> simp
@[simp] theorem endCollecting_link (d : Device) : (endCollecting d).link = d.link := by
  unfold endCollecting; split <;> simp
@[simp] theorem endCollecting_items (d : Device) : (endCollecting d).items = d.items := by
  unfold endCollecting; split <;> simp
@[simp] theorem endCollecting_backed (d : Device) : (endCollecting d).backed = d.backed := by
  unfold endCollecting; split <;> simp
@[simp] theorem endCollecting_radio (d : Device) : (endCollecting d).radio = d.radio := by
  unfold endCollecting; split <;> simp
@[simp] theorem endCollecting_ahead (d : Device) : (endCollecting d).ahead = d.ahead := by
  unfold endCollecting; split <;> simp
@[simp] theorem endCollecting_draws (d : Device) : (endCollecting d).draws = d.draws := by
  unfold endCollecting; split <;> simp

@[simp] theorem gapTick_pins (d : Device) : (gapTick d).pins = d.pins := by
  simp only [gapTick]; split <;> (try split) <;> (try split) <;> simp
@[simp] theorem gapTick_vehicle (d : Device) : (gapTick d).vehicle = d.vehicle := by
  simp only [gapTick]; split <;> (try split) <;> (try split) <;> simp
@[simp] theorem gapTick_tariff (d : Device) : (gapTick d).tariff = d.tariff := by
  simp only [gapTick]; split <;> (try split) <;> (try split) <;> simp
@[simp] theorem gapTick_meter (d : Device) : (gapTick d).meter = d.meter := by
  simp only [gapTick]; split <;> (try split) <;> (try split) <;> simp
@[simp] theorem gapTick_store (d : Device) : (gapTick d).store = d.store := by
  simp only [gapTick]; split <;> (try split) <;> (try split) <;> simp
@[simp] theorem gapTick_channel (d : Device) : (gapTick d).channel = d.channel := by
  simp only [gapTick]; split <;> (try split) <;> (try split) <;> simp
@[simp] theorem gapTick_uplink (d : Device) : (gapTick d).uplink = d.uplink := by
  simp only [gapTick]; split <;> (try split) <;> (try split) <;> simp
@[simp] theorem gapTick_offers (d : Device) : (gapTick d).offers = d.offers := by
  simp only [gapTick]; split <;> (try split) <;> (try split) <;> simp
@[simp] theorem gapTick_mail (d : Device) : (gapTick d).mail = d.mail := by
  simp only [gapTick]; split <;> (try split) <;> (try split) <;> simp
@[simp] theorem gapTick_emergency (d : Device) : (gapTick d).emergency = d.emergency := by
  simp only [gapTick]; split <;> (try split) <;> (try split) <;> simp
@[simp] theorem gapTick_sign (d : Device) : (gapTick d).sign = d.sign := by
  simp only [gapTick]; split <;> (try split) <;> (try split) <;> simp
@[simp] theorem gapTick_items (d : Device) : (gapTick d).items = d.items := by
  simp only [gapTick]; split <;> (try split) <;> (try split) <;> simp
@[simp] theorem gapTick_backed (d : Device) : (gapTick d).backed = d.backed := by
  simp only [gapTick]; split <;> (try split) <;> (try split) <;> simp
@[simp] theorem gapTick_radio (d : Device) : (gapTick d).radio = d.radio := by
  simp only [gapTick]; split <;> (try split) <;> (try split) <;> simp
@[simp] theorem gapTick_ahead (d : Device) : (gapTick d).ahead = d.ahead := by
  simp only [gapTick]; split <;> (try split) <;> (try split) <;> simp
@[simp] theorem gapTick_draws (d : Device) : (gapTick d).draws = d.draws := by
  simp only [gapTick]; split <;> (try split) <;> (try split) <;> simp

/-! ### What a schedule evaluation can do (R36, R70) -/

/-- The result handed over is the scheduled tariff from then on. -/
@[simp] theorem evaluate_scheduled (d : Device) : (evaluate d).tariff.scheduled = scheduleResult d := rfl

/-- A result that is not spent is taken by the trip; a spent one leaves it. Either way no tariff counts as replaced. -/
theorem handResult_meter (r : Option Nat) (d : Device) :
    (handResult r d).meter = { d.meter with
      replaced := none, trip := if resultSpent r d then d.meter.trip else d.meter.trip.map (takeResult r) } := by
  unfold handResult setReplaced onTrip
  split <;> simp

/-- An evaluation touches the meter in HIRED alone. -/
theorem evaluate_meter (d : Device) :
    (evaluate d).meter = if d.meter.state = .hired then (handResult (scheduleResult d) d).meter else d.meter := by
  simp only [evaluate]; split <;> rfl

/-- The result that the tick just taken replaced is spent (R36). -/
theorem resultSpent_of_replaced {n : Nat} {d : Device} (h : d.meter.replaced = some n) : resultSpent (some n) d = true := by
  simp [resultSpent, h]

end Sys2Proof.Machine
end

