-- ==== Sys2Proof/Laws/Link.lean ====
section
/-! SUPPORT. What a request of the host and the end of an event leave behind, said once. -/

namespace Sys2Proof.Machine

open Sys2Proof

/-- Making the selection again changes nothing the second time. -/
theorem refreshSign_idem (d : Device) : refreshSign (refreshSign d) = refreshSign d := rfl

/-- The record a state gives does not depend on the sign's own fields. -/
theorem displayRecord_of_sign (g : Sign) (d : Device) : displayRecord { d with sign := g } = displayRecord d := rfl

/-- After a refresh the last record made is the one the state gives. -/
theorem refreshDisplay_last (d : Device) : (refreshDisplay d).sign.last = some (displayRecord d) := by
  unfold refreshDisplay sendRecord
  split
  · assumption
  · split <;> rfl

/-- A refresh changes the sign alone. -/
theorem refresh_frame (d : Device) : refresh d = { d with sign := (refresh d).sign } := by
  unfold refresh refreshDisplay sendRecord refreshSign
  split
  · rfl
  · split <;> rfl

/-- The record a state gives stands after a refresh. -/
theorem displayRecord_refresh (d : Device) : displayRecord (refresh d) = displayRecord d := by
  rw [refresh_frame d]; rfl

/-- The entry selected after a refresh is the one the table gives. -/
theorem refresh_selected (d : Device) : (refresh d).sign.selected = selectEntry d := by
  unfold refresh refreshDisplay sendRecord refreshSign
  split
  · rfl
  · split <;> rfl

/-- A refresh leaves the blank flag. -/
theorem refresh_blank (d : Device) : (refresh d).sign.blank = d.sign.blank := by
  unfold refresh refreshDisplay sendRecord refreshSign
  split
  · rfl
  · split <;> rfl

/-- The entry the table gives stands after a refresh. -/
theorem selectEntry_refresh (d : Device) : selectEntry (refresh d) = selectEntry d := by
  have h := refresh_blank d
  rw [refresh_frame d]
  unfold selectEntry alarmShown baseEntry
  simp only [h]

/-- Refreshing a part whose sign is true changes nothing. -/
theorem refresh_of_true {d : Device} (h : SignTrue d) : refresh d = d := by
  obtain ⟨h1, h2⟩ := h
  have : refreshSign d = d := by unfold refreshSign; rw [← h1]
  unfold refresh
  rw [this]
  unfold refreshDisplay
  rw [if_pos h2]

/-- After a refresh the sign is true. -/
theorem refresh_signTrue (d : Device) : SignTrue (refresh d) := by
  constructor
  · rw [refresh_selected]
    exact (selectEntry_refresh d).symm
  · rw [displayRecord_refresh]; exact refreshDisplay_last (refreshSign d)

/-- Two refreshes with nothing between them are one. -/
theorem refresh_idem (d : Device) : refresh (refresh d) = refresh d := refresh_of_true (refresh_signTrue d)

/-- The sign after a refresh is decided by the part without its link. -/
theorem refresh_sign_of_link (l : Link) (d : Device) : (refresh { d with link := l }).sign = (refresh d).sign := by
  unfold refresh refreshDisplay sendRecord refreshSign
  change (if d.sign.last = some (displayRecord d) then _ else _ : Device).sign = (if d.sign.last = some (displayRecord d) then _ else _ : Device).sign
  split
  · rfl
  · change (match d.sign.sending with | none => _ | some _ => _ : Device).sign = (match d.sign.sending with | none => _ | some _ => _ : Device).sign
    split <;> rfl

/-- A refresh neither reads nor changes the link. -/
theorem refresh_with_link (l : Link) (d : Device) : refresh { d with link := l } = { refresh d with link := l } := by
  rw [refresh_frame { d with link := l }, refresh_sign_of_link, refresh_frame d]

/-- The end of a request: Sign and Display takes the change, the link the reply. -/
theorem finish_reply (r : Reply) (d : Device) (h : d.link.inHand = some ⟨r.kind, r.tag⟩) :
    finish (replyWaits r d) = { refresh d with link := d.link.answering r } := by
  unfold finish replyWaits
  rw [refresh_with_link]
  unfold pump Link.answering
  simp only [h]
  cases d.link.tx <;> simp [← h]

/-- A request that the link can take at once is taken. -/
theorem request_ready (kind tag : Byte) (body : List Byte) {d : Device} (h : LinkReady d) :
    request kind tag body d = takeFrame ⟨kind, tag, body⟩ [] d := by
  obtain ⟨h1, h2, h3, h4⟩ := h
  unfold request held offerFrame serve linkFree takeFrame takeInHand
  simp [h1, h2, h3, h4, Config.inputSize]

/-- A request taken at once: its owner judges it, and the reply follows. -/
theorem onDevice_request (kind tag : Byte) (body : List Byte) {s : State} (h : LinkReady s.dev) :
    onDevice (request kind tag body) s = .next { s with dev := takeFrame ⟨kind, tag, body⟩ [] s.dev } := by
  unfold onDevice
  rw [request_ready kind tag body h]

end Sys2Proof.Machine
end

