-- ==== Sys2Proof/WellFormed.lean ====
section
/-! DEFINITION. Which commands a port can present: the operands that the frame, the block and the slot leave room for (11,
12, 05, 07, 08). Values inside the room are the owners' to judge. -/

namespace Sys2Proof

/-- A run of bytes of at most `top`. -/
def bytesFit (top : Nat) (bs : List Byte) : Bool := decide (bs.length ≤ top)

/-- A downlink block is 24 bytes (12, The EDCP header). -/
def blockFits (block : List Byte) : Bool := decide (block.length = 24)

/-- A reserved slot of a cycle of at most 32 slots (R76, R77). -/
def slotFits (slot : Nat) : Bool := decide (1 ≤ slot ∧ slot ≤ 31)

/-- A cab identity is a number of 32 bits (04, The tariff set). -/
def identityFits (identity : Nat) : Bool := decide (identity < 4294967296)

/-- A job number is a number of 24 bits (R123). -/
def jobFits (job : Nat) : Bool := decide (job < 16777216)

/-- A short address as a block carries it (05, Downlink blocks). -/
def shortFits (address : Nat) : Bool := decide (1 ≤ address ∧ address ≤ Config.addressTop)

/-- A block sent to ALL (05, Downlink blocks). -/
def addressedToAll : DownAddr → Bool
  | .all => true
  | .short _ => false
  | .zone _ => false

/-- A block sent to a short address. -/
def addressedToCab : DownAddr → Bool
  | .all => false
  | .short a => shortFits a
  | .zone _ => false

/-- A block sent to a short address or to a zone (R126). -/
def addressedToCabOrZone : DownAddr → Bool
  | .all => false
  | .short a => shortFits a
  | .zone z => decide (1 ≤ z ∧ z ≤ 250)

/-- A block sent to a short address or to ALL (08, Inbound parts). -/
def addressedToCabOrAll : DownAddr → Bool
  | .all => true
  | .short a => shortFits a
  | .zone _ => false

/-- An answer to an emergency call: to a short address, or to ALL with an identity (R166). -/
def answerFits (dest : DownAddr) (identity : Option Nat) : Bool :=
  match dest, identity with
  | .all, some i => identityFits i
  | .short a, none => shortFits a
  | _, _ => false

/-- The fields of a TEXT_PART (08, Inbound parts). -/
def partFits (p : TextPart) : Bool :=
  decide (p.number ≤ 65535) && decide (p.index ≤ 255) && decide (1 ≤ p.count ∧ p.count ≤ 10) && decide (p.codes ≤ 255)
    && decide (1 ≤ p.positions.length ∧ p.positions.length ≤ 16)

/-- The command can be presented. -/
def Instr.wellFormed (i : Instr) : Bool :=
  match i with
  | .powerOn _ _ => true
  | .supplyWarning => true
  | .supplyWarningRelease _ => true
  | .tick _ _ _ => true
  | .resumeWindowExpiry => true
  | .unmeteredEvent => true
  | .wheelEdge _ _ => true
  | .sensorFault => true
  | .minuteChange => true
  | .clockDayRangeEnd => true
  | .panicRaise => true
  | .panicRearm => true
  | .occupancyLevelChange => true
  | .calibrationSwitchChange => true
  | .shiftOpen _ body => bytesFit 200 body
  | .hire _ body => bytesFit 200 body
  | .stop _ body => bytesFit 200 body
  | .resume _ body => bytesFit 200 body
  | .clear _ body => bytesFit 200 body
  | .shiftClose _ body => bytesFit 200 body
  | .addExtra _ body => bytesFit 200 body
  | .meterRead _ body => bytesFit 200 body
  | .totalsRead _ body => bytesFit 200 body
  | .tariffBegin _ body => bytesFit 200 body
  | .tariffItemSetCalibration _ fields => bytesFit 198 fields
  | .tariffItemSetTariff _ fields => bytesFit 198 fields
  | .tariffItemRemoveTariff _ fields => bytesFit 198 fields
  | .tariffItemSetDefault _ fields => bytesFit 198 fields
  | .bandAdd _ fields => bytesFit 198 fields
  | .bandRemove _ fields => bytesFit 198 fields
  | .scheduleClear _ fields => bytesFit 198 fields
  | .tariffItemSetSupplement _ fields => bytesFit 198 fields
  | .tariffItemRemoveSupplement _ fields => bytesFit 198 fields
  | .tariffItemSetDecimals _ fields => bytesFit 198 fields
  | .tariffItemSetIdentity _ fields => bytesFit 198 fields
  | .tariffCommit _ body => bytesFit 200 body
  | .tariffAbandon _ body => bytesFit 200 body
  | .tariffRead _ body => bytesFit 200 body
  | .clockSet _ body => bytesFit 200 body
  | .position _ body => bytesFit 200 body
  | .rescan _ body => bytesFit 200 body
  | .accept _ body => bytesFit 200 body
  | .decline _ body => bytesFit 200 body
  | .noshow _ body => bytesFit 200 body
  | .offerList _ body => bytesFit 200 body
  | .book _ body => bytesFit 200 body
  | .unbook _ body => bytesFit 200 body
  | .mailList _ body => bytesFit 200 body
  | .mailRead _ body => bytesFit 200 body
  | .mailReply _ body => bytesFit 200 body
  | .mailDelete _ body => bytesFit 200 body
  | .sendText _ body => bytesFit 200 body
  | .emergencyRaise _ body => bytesFit 200 body
  | .emergencyCancel _ body => bytesFit 200 body
  | .signLoad _ body => bytesFit 200 body
  | .signBlank _ body => bytesFit 200 body
  | .signRead _ body => bytesFit 200 body
  | .status _ body => bytesFit 200 body
  | .setConfigArbitrationMode _ value => bytesFit 199 value
  | .setConfigCovert _ value => bytesFit 199 value
  | .setConfigTrackInterval _ value => bytesFit 199 value
  | .setConfigAcceptanceList _ value => bytesFit 199 value
  | .setConfigSensorMode _ value => bytesFit 199 value
  | .setConfigOccupancyCheck _ value => bytesFit 199 value
  | .setConfigLampPolarity _ value => bytesFit 199 value
  | .getConfig _ body => bytesFit 200 body
  | .identify _ body => bytesFit 200 body
  | .reset _ body => bytesFit 200 body
  | .tagZeroRequest _ body => bytesFit 200 body
  | .unknownKindRequest _ _ body => bytesFit 200 body
  | .frameReceived bytes => bytesFit 206 bytes
  | .frameLengthOversize length => decide (Config.bodyTop < length.toNat)
  | .frameGapTimeout => true
  | .transmitComplete => true
  | .cycleStart => true
  | .headerPart block => blockFits block
  | .logonBackoffEnd => true
  | .backoffEnd order => decide (order ≤ 65535)
  | .reassemblyTimeout _ => true
  | .uplinkPhaseStart => true
  | .slotEmergency => true
  | .slotContention => true
  | .slotGranted slot => slotFits slot
  | .slotPolled slot => slotFits slot
  | .accountingHoldEnd => true
  | .headerLossTimeout => true
  | .lostPeriodExpiry => true
  | .holdTimerExpiry => true
  | .assign dest identity address => addressedToAll dest && identityFits identity && decide (address ≤ 65535)
  | .bar dest identity => addressedToAll dest && identityFits identity
  | .unbar dest identity => addressedToAll dest && identityFits identity
  | .networkReset dest => addressedToAll dest
  | .downlinkBlockDiscarded block => blockFits block
  | .offer dest job _ pickup window price => addressedToCabOrZone dest && jobFits job && decide (pickup ≤ 255) && decide (window ≤ 255) && decide (price < 16777216)
  | .offerDetail dest job part chars => addressedToCabOrZone dest && jobFits job && decide (part ≤ 255) && bytesFit 16 chars
  | .award dest job => addressedToCab dest && jobFits job
  | .withdraw dest job => addressedToCab dest && jobFits job
  | .jobCancel dest job => addressedToCab dest && jobFits job
  | .zonePosition dest zone place => addressedToCab dest && decide (zone ≤ 255) && decide (place ≤ 255)
  | .textPart dest part => addressedToCabOrAll dest && partFits part
  | .emergencyAck dest identity raise => answerFits dest identity && decide (raise ≤ 255)
  | .emergencyClear dest identity raise => answerFits dest identity && decide (raise ≤ 255)
  | .cancelLimit => true
  | .cancelWindowExpiry => true
  | .trackTimerExpiry => true
  | .offerWindowExpiry job => jobFits job
  | .awardDeadlineExpiry job => jobFits job
  | .answerTimerExpiry => true
  | .displayRecordSent => true
  | .frameStart => true
  | .flashClock => true

end Sys2Proof
end

