-- ==== Sys2Proof/Tests/Slice0.lean ====
section
/-! SUPPORT. The model's own tests: the checks of WellFormed on ill-formed terms, the manual's worked figures, one step of
the commands on small parts, and for each statement a part and operands that meet its hypotheses together. -/

namespace Sys2Proof.Tests

open Sys2Proof Sys2Proof.Machine

set_option maxRecDepth 4000
set_option Elab.async false

/-! ### Parts to test on -/

/-- Sign and Display has taken the part's state and sent its record. -/
def shown (d : Device) : Device :=
  let e := refresh d
  { e with sign := { e.sign with sending := none, waiting := none } }

/-- A new part that has sent its STARTED notice and its first display record. -/
def fresh : Device := shown { State.reset.dev with link := { State.reset.dev.link with tx := .idle } }

/-- Tariff 1: mode S, 20 m or 2 s a step; an initial 100 m. -/
def tariffOne : Tariff := ⟨.s, 350, 50, 3, 20, 10, 2⟩
/-- Tariff 2: mode D with no initial distance. -/
def tariffTwo : Tariff := ⟨.d, 400, 0, 0, 10, 7, 2⟩

/-- A small set: two tariffs, no schedule, a supplement. -/
def smallSet : TariffSet :=
  { k := 6000, tariffs := [some tariffOne, some tariffTwo, none, none], default := 1, schedule := []
    supplements := [some ⟨150, 1⟩, none, none, none, none, none, none, some ⟨9999, 2⟩], decimals := 2
    identity := ⟨7, 3⟩ }

/-- The set with a schedule: tariff 1 from midnight and tariff 2 from 06:00, every day. -/
def bandedSet : TariffSet := { smallSet with schedule := [⟨255, 0, 1⟩, ⟨255, 360, 2⟩] }

/-- The part with a set in force and no shift. -/
def offDuty : Device := shown { fresh with
  tariff := { fresh.tariff with
    inForce := some smallSet, derived := deriveAll smallSet.k smallSet.tariffs, revision := 1 }
  meter := { fresh.meter with state := .offDuty } }

/-- An open shift. -/
def shiftOne : Shift :=
  { number := 1, opened := none, trips := 0, totalMetres := 0, hiredMetres := 0, fareTotal := 0, extrasTotal := 0
    unmetered := 0, emergencies := 0, totalResidue := 0, hiredResidue := 0 }

/-- The part for hire, its clock SET to 12:00 of day 0. -/
def forHire : Device := shown { offDuty with
  vehicle := { offDuty.vehicle with calendar := ⟨some ⟨0, 43200, 0⟩, false⟩ }
  meter := { offDuty.meter with state := .forHire, shift := some shiftOne, lastShift := 1 } }

/-- A trip under tariff 1. -/
def tripOne : Trip :=
  { number := 1, start := none, startPosition := none, tariff := 1, used := ⟨true, false, false, false⟩, phase := .initial
    accumulator := 0, pendingTariff := none, fare := 350, extras := 0, hiredEdges := 0, hiredTicks := 0
    fixedPrice := none, job := none, stop := none, flags := ⟨false, false, false, false, false, false, false⟩ }

/-- The part with a trip. -/
def hired : Device := shown { forHire with meter := { forHire.meter with state := .hired, trip := some tripOne } }

/-- The part with its trip stopped, the window just opened. -/
def stopped : Device := shown { forHire with meter := { forHire.meter with state := .stopped, trip := some tripOne, window := 200 } }

/-- The header of cycle 4 of network 1: 12 slots of which 0 to 6 reserved, slots 2 and 3 granted to the cab and 5 polled. -/
def header : Header :=
  { network := 1, level := 1, cycle := 4, day := 0, second := 43200, holiday := false, slots := 12, contention := 7
    grants := [⟨5, 2, 2⟩], acks := [], polls := [⟨5, 5⟩] }

/-- The part registered with address 5 in network 1, in a cycle whose header it has. -/
def registered : Device := { forHire with
  channel := { forHire.channel with
    reg := .registered, address := some 5, network := some 1, lastIntact := some 1, lastAccepted := true, headerRx := .intact
    view := some ⟨header, true, some 5⟩, loggedOnAs := some smallSet.identity } }

/-- An offer that stands. -/
def offerOne : Offer :=
  { job := 9, origin := .direct, forward := false, pickup := none, window := 5, count := 50, price := some 700
    detail0 := none, detail1 := none, detail2 := none, state := .offered }

/-- The part with these offers. -/
def offering (os : List Offer) : Device := { registered with offers := { registered.offers with entries := os } }

/-- An entry of the queue. -/
def entry (m : Msg) (serial : Nat) : Entry := ⟨m, serial, serial, none, 0, .waiting, false, .none⟩

/-- The part with these entries in its queue. -/
def queuing (es : List Entry) (d : Device) : Device :=
  { d with uplink := { d.uplink with entries := es, nextSerial := 100, nextOrder := 100 } }

/-- The part with a message sent whole in cycle 3 and waiting for its acknowledgement. -/
def flying (m : Msg) (p : FlightPhase) : Device :=
  let d := queuing [{ entry m 1 with seq := some 2, state := .inFlight }] registered
  { d with uplink := { d.uplink with inFlight := some ⟨1, p⟩, nextSeq := 3 } }

/-- A call in progress. -/
def calling (st : EmState) (sent : Bool) (d : Device) : Device :=
  shown { d with
    emergency := { d.emergency with
      state := st, number := 4, alarmSent := sent, window := if st = .raised then 100 else 0
      track := if st = .acknowledged then some 100 else none }
    uplink := { d.uplink with lane := laneOf st } }

/-- A message of the mailbox. -/
def letter : Mail :=
  { number := 20, cls := .priority, arrival := none, text := [65], codes := [1, 2], state := .unread, receipt := .none
    reply := none }

/-- The part with these messages. -/
def mailing (ms : List Mail) (d : Device) : Device := { d with mail := { d.mail with mail := ms } }

/-- The part after a supply warning. -/
def warned (d : Device) : Device := warn d

/-- The state of a part with no command waiting. -/
def of (d : Device) : State := ⟨[], d⟩

/-! ### The parts are lawful -/

theorem lawful_fresh : Lawful fresh := @of_decide_eq_true _ (decLawful _) (by decide +kernel)
theorem lawful_offDuty : Lawful offDuty := @of_decide_eq_true _ (decLawful _) (by decide +kernel)
theorem lawful_forHire : Lawful forHire := @of_decide_eq_true _ (decLawful _) (by decide +kernel)
theorem lawful_hired : Lawful hired := @of_decide_eq_true _ (decLawful _) (by decide +kernel)
theorem lawful_stopped : Lawful stopped := @of_decide_eq_true _ (decLawful _) (by decide +kernel)
theorem lawful_registered : Lawful registered := @of_decide_eq_true _ (decLawful _) (by decide +kernel)
theorem lawful_warned : Lawful (warned stopped) := @of_decide_eq_true _ (decLawful _) (by decide +kernel)

/-! ### WellFormed refuses ill-formed terms -/

/-- A run of bytes one longer than a body. -/
def long : List Byte := List.replicate 201 0

theorem test_long_bodies_refused :
    ([.shiftOpen 1 long, .hire 1 long, .stop 1 long, .resume 1 long, .clear 1 long, .shiftClose 1 long, .addExtra 1 long,
      .meterRead 1 long, .totalsRead 1 long, .tariffBegin 1 long, .tariffCommit 1 long, .tariffAbandon 1 long,
      .tariffRead 1 long, .clockSet 1 long, .position 1 long, .rescan 1 long, .accept 1 long, .decline 1 long,
      .noshow 1 long, .offerList 1 long, .book 1 long, .unbook 1 long, .mailList 1 long, .mailRead 1 long,
      .mailReply 1 long, .mailDelete 1 long, .sendText 1 long, .emergencyRaise 1 long, .emergencyCancel 1 long,
      .signLoad 1 long, .signBlank 1 long, .signRead 1 long, .status 1 long, .getConfig 1 long, .identify 1 long,
      .reset 1 long, .tagZeroRequest 1 long, .unknownKindRequest 1 1 long] : List Instr).all
      (fun i => !i.wellFormed) = true := by decide +kernel

theorem test_long_items_refused :
    ([.tariffItemSetCalibration 1 (long.take 199), .tariffItemSetTariff 1 (long.take 199),
      .tariffItemRemoveTariff 1 (long.take 199), .tariffItemSetDefault 1 (long.take 199), .bandAdd 1 (long.take 199),
      .bandRemove 1 (long.take 199), .scheduleClear 1 (long.take 199), .tariffItemSetSupplement 1 (long.take 199),
      .tariffItemRemoveSupplement 1 (long.take 199), .tariffItemSetDecimals 1 (long.take 199),
      .tariffItemSetIdentity 1 (long.take 199), .setConfigArbitrationMode 1 (long.take 200),
      .setConfigCovert 1 (long.take 200), .setConfigTrackInterval 1 (long.take 200),
      .setConfigAcceptanceList 1 (long.take 200), .setConfigSensorMode 1 (long.take 200),
      .setConfigOccupancyCheck 1 (long.take 200), .setConfigLampPolarity 1 (long.take 200),
      .frameReceived (List.replicate 207 0), .frameLengthOversize 200] : List Instr).all
      (fun i => !i.wellFormed) = true := by decide +kernel

theorem test_ill_addressed_blocks_refused :
    ([.headerPart (long.take 23), .downlinkBlockDiscarded (long.take 25), .backoffEnd 65536, .slotGranted 0,
      .slotGranted 32, .slotPolled 0, .assign (.short 5) 7 1, .assign .all 4294967296 1, .assign .all 7 65536,
      .bar (.zone 1) 7, .bar .all 4294967296, .unbar (.short 5) 7, .unbar .all 4294967296, .networkReset (.short 5),
      .offer .all 1 false 0 5 0, .offer (.zone 251) 1 false 0 5 0, .offer (.short 0) 1 false 0 5 0,
      .offer (.short 2001) 1 false 0 5 0, .offer (.short 5) 16777216 false 0 5 0, .offer (.short 5) 1 false 256 5 0,
      .offer (.short 5) 1 false 0 256 0, .offer (.short 5) 1 false 0 5 16777216, .offerDetail .all 1 0 [],
      .offerDetail (.short 5) 16777216 0 [], .offerDetail (.short 5) 1 256 [], .offerDetail (.short 5) 1 0 (long.take 17)] :
      List Instr).all (fun i => !i.wellFormed) = true := by decide +kernel

theorem test_ill_formed_answers_refused :
    ([.award .all 1, .award (.short 5) 16777216, .withdraw (.zone 1) 1, .jobCancel .all 1, .jobCancel (.short 5) 16777216,
      .zonePosition .all 1 1, .zonePosition (.short 5) 256 1, .zonePosition (.short 5) 1 256,
      .textPart (.zone 1) ⟨1, none, 0, 1, 0, [65]⟩, .textPart .all ⟨65536, none, 0, 1, 0, [65]⟩,
      .textPart .all ⟨1, none, 256, 1, 0, [65]⟩, .textPart .all ⟨1, none, 0, 0, 0, [65]⟩,
      .textPart .all ⟨1, none, 0, 11, 0, [65]⟩, .textPart .all ⟨1, none, 0, 1, 256, [65]⟩,
      .textPart .all ⟨1, none, 0, 1, 0, []⟩, .textPart .all ⟨1, none, 0, 1, 0, long.take 17⟩,
      .emergencyAck .all none 1, .emergencyAck (.short 5) (some 7) 1, .emergencyAck (.zone 1) none 1,
      .emergencyAck (.short 5) none 256, .emergencyClear .all (some 4294967296) 1, .emergencyClear (.short 2001) none 1,
      .offerWindowExpiry 16777216, .awardDeadlineExpiry 16777216] : List Instr).all
      (fun i => !i.wellFormed) = true := by decide +kernel

/-! ### The manual's worked figures -/

/-- R202: over the nine bytes 31h to 39h the CRC is 29B1h. -/
theorem test_crc_of_the_nine_digits : crc16 [0x31, 0x32, 0x33, 0x34, 0x35, 0x36, 0x37, 0x38, 0x39] = 0x29B1 := by
  decide +kernel

/-- The tariff of the worked case of 02. -/
def worked : Tariff := ⟨.s, 350, 1000, 200, 20, 100, 20⟩
/-- The tariff it changes to. -/
def workedTwo : Tariff := ⟨.s, 350, 0, 0, 25, 80, 15⟩
/-- Its trip in NORMAL with this accumulator and fare. -/
def workedTrip (accumulator fare : Nat) : Trip := { tripOne with phase := .normal, accumulator, fare }

/-- 02, Worked case: a trip under one tariff: the derived sizes. -/
theorem test_worked_sizes : derive 6000 worked = ⟨600, 200, 120000, 6000, 2000, 12000000⟩ := by decide +kernel
/-- 02, Derived step sizes: at k = 6,450 and Ds = 50, Np is 323. -/
theorem test_size_rounds : (derive 6450 { worked with ds := 50 }).np = 323 := by decide +kernel
/-- R28: at k = 60,000 Ds = 1,092 is accepted and Ds = 1,100 refused. -/
theorem test_step_range :
    firstStepFault 60000 [some { workedTwo with ds := 1092 }] = none
      ∧ firstStepFault 60000 [some { workedTwo with ds := 1100 }] = some (.np 1) := by decide +kernel
/-- 02, the same case: tick 1,150 ends INITIAL with no step charged; tick 1,250 makes a step of 20. -/
theorem test_worked_ticks :
    accrue worked (derive 6000 worked) 6 { workedTrip 11988000 350 with phase := .initial } = workedTrip 0 350
      ∧ accrue worked (derive 6000 worked) 6 (workedTrip 118800 350) = workedTrip 0 370 := by decide +kernel
/-- 02, Worked case: the limits in one tick. -/
theorem test_worked_cap :
    accrue worked (derive 6000 worked) 1023 (workedTrip 0 999990)
      = { workedTrip 84600 999999 with flags := { tripOne.flags with fareCapped := true } } := by decide +kernel
/-- 02, Worked case: D mode. -/
theorem test_worked_d_mode :
    accrue { worked with mode := .d } (derive 6000 worked) 6 { workedTrip 0 350 with phase := .initial }
        = { workedTrip 18000 350 with phase := .initial }
      ∧ accrue { worked with mode := .d } (derive 6000 worked) 2 (workedTrip 0 350) = workedTrip 1000 350 := by
  decide +kernel
/-- 02, Worked case: a tariff change in a running trip: the boundary installs tariff 2, and a second step is discarded. -/
theorem test_worked_change :
    accrue worked (derive 6000 worked) 6 { workedTrip 118800 910 with pendingTariff := some 2 }
        = { workedTrip 0 930 with tariff := 2, used := ⟨true, true, false, false⟩ }
      ∧ accrue worked (derive 6000 worked) 1023 { workedTrip 100000 910 with pendingTariff := some 2 }
        = { workedTrip 0 930 with tariff := 2, used := ⟨true, true, false, false⟩ } := by decide +kernel
/-- 02, Worked case: residues. -/
theorem test_worked_residues : advance 6000 5 Config.count32Top 0 0 = (0, 5000) ∧ advance 6000 5 Config.count32Top 1 4000 = (2, 3000) := by
  decide +kernel
/-- 03, Worked sequence: reverse debt, ticks 1 and 4. -/
theorem test_worked_debt : (usableEdges 0 12 0).p = 0 ∧ (usableEdges 6 0 1).p = 5 ∧ (usableEdges 0 12 4090).debt = 4095 := by
  decide +kernel

/-- The schedule of 04, Worked example. -/
def workedSchedule : TariffSet := { smallSet with schedule := [⟨0x60, 0, 2⟩, ⟨0x80, 0, 3⟩, ⟨0x1F, 360, 1⟩, ⟨0x1F, 1320, 2⟩] }

/-- 04, Worked example: a schedule; 20,000 mod 7 is 1, a Tuesday (03, Worked sequence: the clock and the base). -/
theorem test_worked_schedule :
    bandResult workedSchedule ⟨20000, 19800, 0⟩ false = 1 ∧ bandResult workedSchedule ⟨20000, 80100, 0⟩ false = 2
      ∧ bandResult workedSchedule ⟨20001, 36000, 0⟩ true = 3 ∧ bandResult workedSchedule ⟨20004, 10800, 0⟩ false = 2 := by
  decide +kernel

/-- 03, Worked sequence: the clock and the base: a header 3 s ahead moves the clock to it, tick 0. -/
theorem test_worked_clock_step :
    (clockHeader ⟨20000, 79202⟩ false { registered with vehicle := { registered.vehicle with calendar :=
      ⟨some ⟨20000, 79199, 4⟩, false⟩ } }).vehicle.calendar = ⟨some ⟨20000, 79202, 0⟩, false⟩
      ∧ (clockHeader ⟨20000, 79199⟩ false { registered with vehicle := { registered.vehicle with calendar :=
      ⟨some ⟨20000, 79198, 4⟩, false⟩ } }).vehicle.calendar = ⟨some ⟨20000, 79198, 4⟩, false⟩ := by decide +kernel

/-- The queue of 06, Worked sequence: rotating arbitration. -/
def workedQueue (pointer : Nat) (es : List Entry) : Device :=
  let d := queuing es registered
  { d with items := { d.items with arbitration := .rotating }, uplink := { d.uplink with pointer } }

/-- 06, Worked sequence: rotating arbitration, choices 2 and 3. -/
theorem test_worked_arbitration :
    ((chooseEntry (workedQueue 2 [entry (.text 1 [65]) 2, entry .status 11, entry (.cannedReply 1 1) 12, entry (.decline 8 .driver) 13])).map Entry.serial
        = some 11)
      ∧ ((chooseEntry (workedQueue 4 [entry (.text 1 [65]) 2, entry (.cannedReply 1 1) 12, entry (.decline 8 .driver) 13])).map Entry.serial
        = some 2) := by decide +kernel

/-- 10, Worked sequence: loading the table: the places written wrap from 7 to 0. -/
theorem test_worked_places :
    writePatterns 6 [⟨.on, .on, .on, .on⟩, ⟨.slow, .off, .off, .off⟩, ⟨.fast, .off, .off, .off⟩] defaultPatterns
      = ((defaultPatterns.set 6 ⟨.on, .on, .on, .on⟩).set 7 ⟨.slow, .off, .off, .off⟩).set 0 ⟨.fast, .off, .off, .off⟩ := by
  decide +kernel

/-! ### One step of the commands -/

/-- The part after a command. -/
def run (c : Instr) (d : Device) : Device := after c (of d)

/-- The reply being sent after a command. -/
def told (c : Instr) (d : Device) : Option (Result × ReplyData) :=
  (run c d).link.tx.replyOf.map fun r => (r.result, r.data)

/-- R4: HIRE with the default tariff: HIRED, the flag fall, trip 1. -/
theorem test_hire : ((run (.hire 1 [0, 0]) forHire).meter.trip.map fun t => (t.number, t.tariff, t.fare)) = some (1, 1, 350)
    ∧ (run (.hire 1 [0, 0]) forHire).meter.state = .hired := by decide +kernel
/-- R4: a tariff that is absent is NOT_FOUND. -/
theorem test_hire_absent : told (.hire 1 [1, 3]) forHire = some (.notFound, .none) := by decide +kernel
/-- R1: HIRE in OFF_DUTY is WRONG_STATE, and so before its length is judged. -/
theorem test_hire_off_duty : told (.hire 1 []) offDuty = some (.wrongState, .none) := by decide +kernel
/-- R3: a shift's number follows the last. -/
theorem test_shift_open : told (.shiftOpen 1 []) offDuty = some (.ok, .shiftNumber 1)
    ∧ (run (.shiftOpen 1 []) offDuty).meter.state = .forHire := by decide +kernel
/-- R10: STOP opens the window of 200 ticks. -/
theorem test_stop : told (.stop 1 []) hired = some (.ok, .fareExtras 350 0) ∧ (run (.stop 1 []) hired).meter.window = 200 := by
  decide +kernel
/-- R11: RESUME in the window; TOO_LATE after it. -/
theorem test_resume : (run (.resume 1 []) stopped).meter.state = .hired
    ∧ told (.resume 1 []) { stopped with meter := { stopped.meter with window := 0 } } = some (.tooLate, .none) := by
  decide +kernel
/-- R12: the top of the extras. -/
theorem test_extra_caps :
    ((run (.addExtra 1 [0]) { hired with meter := { hired.meter with trip := some { tripOne with extras := 99900 } } }).meter.trip.map
      fun t => (t.extras, t.flags.extrasCapped)) = some (99999, true) := by decide +kernel
/-- R13, R20: CLEAR gives record 1 and ends the trip. -/
theorem test_clear : told (.clear 1 []) stopped = some (.ok, .recordNumber 1)
    ∧ (run (.clear 1 []) stopped).tariff.lifetime.fareSum = 350 ∧ (run (.clear 1 []) stopped).meter.trip = none := by
  decide +kernel
/-- R16: SHIFT_CLOSE appends the shift record. -/
theorem test_shift_close : (run (.shiftClose 1 []) forHire).store.records.map Stored.number = [1]
    ∧ (run (.shiftClose 1 []) forHire).meter.state = .offDuty := by decide +kernel
/-- R18: in FOR_HIRE the trip fields are absent. -/
theorem test_meter_read : told (.meterRead 1 []) forHire = some (.ok, .meter .forHire (some 1) none) := by decide +kernel
/-- R60: LOCKED comes first. -/
theorem test_tariff_begin_locked : told (.tariffBegin 1 []) hired = some (.locked, .none) := by decide +kernel

/-- The part with the switch OPEN and a load of this staging set. -/
def loading (st : Staging) : Device :=
  { offDuty with tariff := { offDuty.tariff with switch := ⟨true, 0⟩, load := some st } }

/-- R63: k 6,450; D0 without T0 is OUT_OF_RANGE (04, Worked example: loading a set). -/
theorem test_items : ((run (.tariffItemSetCalibration 1 [0x19, 0x32]) (loading emptyStaging)).tariff.load.bind Staging.k) = some 6450
    ∧ told (.tariffItemSetTariff 1 [3, 2, 0, 1, 0x90, 5, 0xDC, 0, 0, 0, 25, 0, 120, 0, 15]) (loading emptyStaging)
      = some (.outOfRange, .none) := by decide +kernel
/-- R64: a band goes before a later one. -/
theorem test_band_add :
    ((run (.bandAdd 1 [0x60, 0, 10, 1]) (loading bandedSet.toStaging)).tariff.load.map fun s => s.schedule.map Band.start)
      = some [0, 10, 360] := by decide +kernel
/-- R65, R66: a copy of the set in force commits as the next revision; an empty set lacks its calibration. -/
theorem test_commit : told (.tariffCommit 1 []) (loading smallSet.toStaging) = some (.ok, .revision 2)
    ∧ told (.tariffCommit 1 []) (loading emptyStaging) = some (.incomplete, .commitFault .calibration) := by decide +kernel
/-- R67: TARIFF_ABANDON without a load is SEQUENCE. -/
theorem test_abandon : told (.tariffAbandon 1 []) offDuty = some (.sequence, .none) := by decide +kernel
/-- R68: tariff 3 is absent. -/
theorem test_tariff_read : told (.tariffRead 1 [1, 2, 3]) offDuty = some (.notFound, .none)
    ∧ told (.tariffRead 1 [1, 1, 0]) offDuty = some (.ok, .tariffItem (.calibration 6000)) := by decide +kernel
/-- R52: the clock may be set while it is UNSET, and not while it is SET and the switch LOCKED. -/
theorem test_clock_set : (run (.clockSet 1 [0, 1, 0, 0, 40]) offDuty).vehicle.calendar.time = some ⟨1, 40, 0⟩
    ∧ told (.clockSet 1 [0, 1, 0, 0, 40]) forHire = some (.locked, .clock (some ⟨0, 43200⟩)) := by decide +kernel
/-- R56, R202: a negative latitude in two's complement. -/
theorem test_position : ((run (.position 1 [0, 1, 255, 255, 255, 254, 0, 0, 0, 9, 0, 0, 0, 0, 0]) fresh).vehicle.fix.map
    fun f => (f.latitude, f.longitude)) = some (-2, 9) := by decide +kernel
/-- R143: BOOK in FOR_HIRE and REGISTERED. -/
theorem test_book : (run (.book 1 [12]) registered).offers.booking = .pending 12
    ∧ told (.book 1 [12]) forHire = some (.wrongState, .none) := by decide +kernel
/-- R130: ACCEPT queues a BID and the entry is BIDDING; a job not held is NOT_FOUND. -/
theorem test_accept : ((run (.accept 1 [0, 0, 9]) (offering [offerOne])).uplink.entries.map Entry.msg) = [.status, .bid 9]
    ∧ told (.accept 1 [0, 0, 8]) (offering [offerOne]) = some (.notFound, .none) := by decide +kernel
/-- R131: DECLINE removes the entry and queues a DECLINE. -/
theorem test_decline : (run (.decline 1 [0, 0, 9]) (offering [offerOne])).offers = { registered.offers with history := [9] } := by
  decide +kernel
/-- R155: the first read of a PRIORITY message queues its receipt. -/
theorem test_mail_read : ((run (.mailRead 1 [0, 20]) (mailing [letter] fresh)).mail.mail.map fun m => (m.state, m.receipt))
    = [(.read, .queued)] := by decide +kernel
/-- R157: MAIL_REPLY of an UNREAD message is WRONG_STATE. -/
theorem test_mail_reply : told (.mailReply 1 [0, 20, 1]) (mailing [letter] fresh) = some (.wrongState, .none) := by decide +kernel
/-- R160: a character outside 20h..FEh is MALFORMED; 160 characters are taken. -/
theorem test_send_text : told (.sendText 1 [0x1F]) fresh = some (.malformed, .none)
    ∧ told (.sendText 1 (List.replicate 160 65)) fresh = some (.ok, .outbound 0) := by decide +kernel
/-- R164: a raise starts call 1, and its reply carries the number and the time; in RAISED it is ALREADY, with the state. -/
theorem test_raise : told (.emergencyRaise 1 []) fresh = some (.ok, .raised 1 none)
    ∧ told (.emergencyRaise 1 []) (calling .raised false fresh) = some (.ok, .raise .raised 4 none) := by decide +kernel
/-- R172: a withdrawal with no alarm sent ends at once; with one sent it is CANCELLING. -/
theorem test_cancel : (run (.emergencyCancel 1 []) (calling .raised false fresh)).emergency.state = .quiet
    ∧ (run (.emergencyCancel 1 []) (calling .raised true fresh)).uplink.lane = .cancel := by decide +kernel
/-- R182: entry 7 is protected while the switch is LOCKED. -/
theorem test_sign_load : told (.signLoad 1 [7, 1, 0, 0, 0, 0]) fresh = some (.locked, .none)
    ∧ told (.signLoad 1 [9, 1, 0, 0, 0, 0]) fresh = some (.outOfRange, .none) := by decide +kernel
/-- R183: the blank flag shows entry 6. -/
theorem test_sign_blank : told (.signBlank 1 [1]) forHire = some (.ok, .blank true 6) := by decide +kernel
/-- R196: the track interval is clamped to 60; two equal network ids are MALFORMED. -/
theorem test_configure : (run (.setConfigTrackInterval 1 [255]) fresh).items.trackInterval = 60
    ∧ told (.setConfigAcceptanceList 1 [2, 0, 1, 0, 1]) fresh = some (.malformed, .none) := by decide +kernel
/-- R198: a new part has no identity and revision 0. -/
theorem test_identify : told (.identify 1 []) fresh = some (.ok, .identify Config.partRevision ⟨0, 0⟩ 0) := rfl
/-- R199: RESET is refused while a shift is open. -/
theorem test_reset : told (.reset 1 []) forHire = some (.wrongState, .none) := by decide +kernel
/-- R191: tag 0 and an unknown kind. -/
theorem test_bad_requests : told (.tagZeroRequest 1 []) fresh = some (.malformed, .none)
    ∧ told (.unknownKindRequest 0x3F 1 []) fresh = some (.unknownKind, .none) := by decide +kernel
/-- R189: a frame with a wrong CRC is counted and dropped. -/
theorem test_frame : (run (.frameReceived [0x5A, 0, 0x38, 1, 0, 0]) fresh).link.crcErrors = 1
    ∧ told (.frameReceived (frameBytes ⟨0x38, 1, []⟩)) fresh = told (.status 1 []) fresh := by decide +kernel
/-- R24, R25: a warning saves the trip, and at power-on it stands STOPPED with the window closed. -/
theorem test_power : (run (.powerOn none true) (warned hired)).meter.state = .stopped
    ∧ (run (.powerOn none true) (warned hired)).meter.window = 0
    ∧ (run (.powerOn none false) (warned hired)).meter.state = .offDuty := by decide +kernel
/-- R48, R37: a tick closes 6 edges into 1 m at k = 6,000. -/
theorem test_tick : (run (.tick false false false) { hired with vehicle := { hired.vehicle with forward := 6 } }).tariff.lifetime.hiredMetres = 1 := by
  decide +kernel
/-- R44: A alone changing to differ from B is forward; both changing is a phase error. -/
theorem test_wheel : (run (.wheelEdge true false) fresh).vehicle.forward = 1 ∧ (run (.wheelEdge true true) fresh).vehicle.phaseErrors.head? = some 1 := by
  decide +kernel
/-- R54: the fifth active sample raises. -/
theorem test_panic : (run .panicRaise { fresh with vehicle := { fresh.vehicle with panic := ⟨false, 4⟩ } }).emergency.state = .raised
    ∧ run .panicRaise fresh = fresh := by decide +kernel
/-- R59: an opening is counted. -/
theorem test_switch : (run .calibrationSwitchChange { fresh with tariff := { fresh.tariff with switch := ⟨false, 4⟩ } }).tariff.lifetime.switchOpenings = 1 := by
  decide +kernel
/-- R50: midnight clears the holiday flag. -/
theorem test_minute : (run .minuteChange { forHire with vehicle := { forHire.vehicle with calendar := ⟨some ⟨3, 86399, 9⟩, true⟩ } }).vehicle.calendar
    = ⟨some ⟨4, 0, 0⟩, false⟩ := by decide +kernel

/-- A header of network `n`, cycle 5, in one part. -/
def block (n : Byte) : List Byte :=
  let inner : List Byte := [1, 0, 1, 0, n, 1, 5, 0, 0, 0, 0xA8, 0xC0, 0, 12, 7, 0, 1, 0, 0, 0x52, 0, 0]
  inner ++ writeBytes 2 (crc16 inner)

/-- A part that collects a header. -/
def collecting (d : Device) : Device := { d with channel := { d.channel with headerRx := .collecting [] } }

/-- R80, R91: an accepted network leads to LOGON_WAIT, another to INCOMPATIBLE. -/
theorem test_header_joins : (run (.headerPart (block 1)) (collecting offDuty)).channel.logon = some ⟨.logon, 1, .handed⟩
    ∧ (run (.headerPart (block 2)) (collecting offDuty)).channel.reg = .incompatible := by decide +kernel
/-- R112: the next header acknowledges address 5, sequence 2, and the message is delivered. -/
theorem test_header_acknowledges : (run (.headerPart (block 1)) (collecting (flying (.noshow 3) (.ackWait 4)))).uplink.entries = []
    ∧ ((run (.headerPart (block 1)) (collecting (flying (.noshow 3) (.ackWait 3)))).uplink.entries.map Entry.attempts) = [1] := by
  decide +kernel
/-- R75: a block out of place damages the header. -/
theorem test_header_damaged : (run (.downlinkBlockDiscarded (List.replicate 24 0)) (collecting registered)).channel.headerRx = .damaged := by
  decide +kernel
/-- R84: ASSIGN registers a cab in LOGON_WAIT; R88: BAR. -/
theorem test_orders :
    (run (.assign .all 7 417) { registered with channel := { registered.channel with
        reg := .logonWait, address := none, logon := some ⟨.logon, 1, .handed⟩ } }).channel.address = some 417
      ∧ (run (.bar .all 7) registered).channel.reg = .barred ∧ run (.bar .all 8) registered = registered := by decide +kernel
/-- R126, R127: an OFFER enters with its window clamped to 60 s. -/
theorem test_offer : ((run (.offer (.short 5) 9 false 0 255 0) registered).offers.entries.map fun o => (o.job, o.count)) = [(9, 600)]
    ∧ (run (.offer (.short 6) 9 false 0 255 0) registered).offers.entries = [] := by decide +kernel
/-- R133: an AWARD of a direct offer gives the ACTIVE role; R134: a job not held is declined. -/
theorem test_award : ((run (.award (.short 5) 9) (offering [offerOne])).offers.entries.map Offer.state) = [.active false]
    ∧ ((run (.award (.short 5) 8) registered).uplink.entries.map Entry.msg) = [.status, .decline 8 .notHeld] := by decide +kernel
/-- R152: the codes follow the text in the final part. -/
theorem test_text_part : ((run (.textPart .all ⟨20, some .normal, 0, 1, 2, [65, 66, 3, 7]⟩) registered).mail.mail.map
    fun m => (m.text, m.codes)) = [([65, 66], [3, 7])] := by decide +kernel
/-- R168, R170: only the call's own number is answered. -/
theorem test_answers : (run (.emergencyAck (.short 5) none 4) (calling .raised true registered)).emergency.state = .acknowledged
    ∧ (run (.emergencyClear (.short 5) none 3) (calling .raised true registered)).emergency.state = .raised := by decide +kernel

/-- The part in its uplink phase, with this contention use. -/
def planned (use : Option (Nat × ContentionUse)) (d : Device) : Device :=
  { d with uplink := { d.uplink with plan := some ⟨true, [5], use⟩ } }

/-- R118: slot 0 carries the EMERGENCY; R120: so does the cab's first reserved slot, and no later one. -/
theorem test_lane : ((run .slotEmergency (planned none (calling .raised false registered))).radio.map Sent.slot) = [0]
    ∧ ((run (.slotGranted 2) (planned none (calling .raised false registered))).radio.map Sent.slot) = [2]
    ∧ run (.slotGranted 3) (planned none (calling .raised false registered)) = planned none (calling .raised false registered) := by
  decide +kernel
/-- R109: a message of one block goes with its sequence. -/
theorem test_contention : ((run .slotContention (planned (some (8, .entry 1)) (queuing [entry (.noshow 3) 1] registered))).radio.map
    fun x => (x.slot, x.block.seq, x.block.content)) = [(8, some 0, .noshow 3)] := by decide +kernel
/-- R117: a poll is answered with a STATUS, and the held STATUS is satisfied. -/
theorem test_poll : ((run (.slotPolled 5) (planned none registered)).radio.map Sent.slot) = [5]
    ∧ (run (.slotPolled 5) (planned none registered)).uplink.entries = [] := by decide +kernel
/-- R107: slot 0, the polls and no contention block when nothing is eligible. -/
theorem test_plan : (run .uplinkPhaseStart (queuing [] registered)).uplink.plan = some ⟨true, [5], none⟩ := by decide +kernel
/-- R85, R87: the loss timer runs out in REGISTERED, and the LOST period forfeits the address. -/
theorem test_loss :
    (run .headerLossTimeout { registered with channel := { registered.channel with lossTimer := 299 } }).channel.reg = .lost
      ∧ (run .lostPeriodExpiry { registered with channel := { registered.channel with reg := .lost, lostPeriod := some 1199 } }).channel.address
        = none := by decide +kernel

/-- R192, 12: the reply to SHIFT_OPEN has kind 81h, and WRONG_STATE is 04h; a notice has tag 0. -/
theorem test_fronts : (run (.shiftOpen 9 []) forHire).link.tx.front = [0x81, 9, 0x04, 0x00]
    ∧ (Transmitter.notice (.switch true)).front = [0x4B, 0] := by decide +kernel
/-- R179, R180: FOR_HIRE and BOOKED lights L1 to L3; an inverted L4 is then active too; L3 of STOPPED flashes SLOW. -/
theorem test_lamps : lampOutputs (shown { registered with offers := { registered.offers with booking := .booked 12 2 } }) = (true, true, true, false)
    ∧ lampOutputs { forHire with items := { forHire.items with polarity := { forHire.items.polarity with l4 := true } } }
      = (true, true, false, true)
    ∧ lampOutputs { stopped with sign := { stopped.sign with flash := 4 } } = (true, false, false, false) := by decide +kernel
/-- 12, The uplink block: the third block of a text of 40 characters holds the last 8, and its content ends with 00h. -/
theorem test_text_block : messageContent (.text 3 (List.replicate 40 65)) 2 registered = .text 3 (List.replicate 8 65)
    ∧ (UplinkBlock.bytes ⟨5, none, some 2, 2, 3, .text 3 (List.replicate 8 65)⟩).take 16
      = [0, 5, 0x8E, 2, 2, 3, 3, 65, 65, 65, 65, 65, 65, 65, 65, 0] := by decide +kernel
/-- 12, The uplink block: a LOGON under address 0 begins with its identity, whatever follows it. -/
theorem test_identity_block (x : Content) (h : x = .logon ⟨9, 1⟩) :
    (UplinkBlock.bytes ⟨0, some 0x01020304, none, 0, 1, x⟩).take 10 = [0, 0, 0x81, 0xFF, 0, 1, 1, 2, 3, 4] := by subst h; rfl
/-- R192, 12: the whole frame of the OK reply to a TARIFF_ITEM: a body of 2, kind 91h, the tag, result and indicator 0. -/
theorem test_item_reply_bytes :
    (run (.tariffItemSetDefault 7 [1]) (loading emptyStaging)).link.tx.bytes = frameBytes ⟨0x91, 7, [0, 0]⟩
      ∧ (frameBytes ⟨0x91, 7, [0, 0]⟩).take 6 = [0x5A, 2, 0x91, 7, 0, 0] ∧ (frameBytes ⟨0x91, 7, [0, 0]⟩).length = 8 := by
  decide +kernel
/-- R156: a receipt that is delivered is set in the message that has its number, though another of that number failed before. -/
theorem test_receipt_of_reused_number : ((run (.headerPart (block 1)) (collecting (mailing [{ letter with state := .read, receipt := .failed }]
    (flying (.readReceipt 20) (.ackWait 4))))).mail.mail.map Mail.receipt) = [.delivered] := by decide +kernel
/-- R41: 12 edges at k = 6,000 are 2 m; from 199 the count stands at 200 with 1 m kept beyond. -/
theorem test_unmetered : (run (.tick false true false) { forHire with
      items := { forHire.items with occupancyCheck := true }
      vehicle := { forHire.vehicle with forward := 12, occupancy := ⟨true, 0⟩, unmetered := ⟨199, 0, false, 0⟩ } }).vehicle.unmetered
    = ⟨200, 0, true, 1⟩ := by decide +kernel
/-- R91: a list changed in mid-cycle leaves the blocks of the cycle as the header was judged. -/
theorem test_list_waits_for_header :
    cycleTakes (run (.setConfigAcceptanceList 1 [1, 0, 9]) { registered with channel := { registered.channel with
      reg := .searching, address := none, network := none } }) = true := by decide +kernel

/-! ### For each statement, a part and operands that meet its hypotheses, clause by clause -/

/-- What decides to true holds. -/
theorem holds {p : Prop} (h : Decidable p) (e : @decide p h = true) : p := @of_decide_eq_true p h e
/-- The link takes a request at once and the sign is true. -/
def Ready (d : Device) : Prop := LinkReady d ∧ SignTrue d
/-- Whether it is so. -/
def decBoth (d : Device) : Decidable (Ready d) := by haveI := decReady; haveI := decTrue; unfold Ready; infer_instance
/-- The link takes a request at once and the part is lawful. -/
def Fit (d : Device) : Prop := LinkReady d ∧ Lawful d
/-- Whether it is so. -/
def decFit (d : Device) : Decidable (Fit d) := by haveI := decReady; haveI := decLawful; unfold Fit; infer_instance
/-- A lawful part takes the command in one step. -/
def Steps (c : Instr) (d : Device) : Prop := Lawful d ∧ step ⟨[c], d⟩ = .next (of (run c d))

/-- Six edges forward wait. -/
def rolling (d : Device) : Device := { d with vehicle := { d.vehicle with forward := 6 } }
/-- The part with a booking. -/
def booked (b : Booking) (d : Device) : Device := shown { d with offers := { d.offers with booking := b, lastTold := b } }
/-- The items in covert mode. -/
def covert (d : Device) : Device := shown { d with items := { d.items with covert := true } }
/-- The part with this tariff set. -/
def under (set : TariffSet) (d : Device) : Device :=
  shown { d with tariff := { d.tariff with inForce := some set, derived := deriveAll set.k set.tariffs } }
/-- An entry that waits for its award, the bid sent. -/
def bidOn : Offer := { offerOne with job := 10, state := .bidding true (some 300) }
/-- The ACTIVE entry, before its trip. -/
def active : Offer := { offerOne with job := 11, state := .active false }
/-- The FORWARD entry. -/
def following : Offer := { offerOne with job := 12, state := .forward }
/-- An undelivered bid and its entry of the queue. -/
def bidding : Device := queuing [entry (.bid 9) 1] (offering [{ offerOne with state := .bidding false none }])
/-- The store with these records. -/
def storing (rs : List Stored) (next : Nat) (d : Device) : Device :=
  { d with store := { records := rs, next } }
/-- A shift record of this number. -/
def kept (n : Nat) : Stored := ⟨n, .shift ⟨1, none, none, 0, 0, 0, 0, 0, 0, 0, 0⟩, .waiting⟩
/-- A queue of 16 messages. -/
def full (d : Device) : Device := queuing ((List.range 16).map fun n => entry (.noshow (n + 1)) (n + 1)) d

theorem lawful_parts : ∀ d ∈ [rolling hired, booked (.booked 12 2) registered, under bandedSet forHire,
    offering [offerOne, bidOn, active, following], bidding, full registered, calling .raised true registered,
    calling .acknowledged true registered, calling .cancelling true registered, loading smallSet.toStaging,
    flying (.noshow 3) (.ackWait 4), flying (.text 0 [65]) (.grantWait 4), mailing [{ letter with state := .read, receipt := .delivered }] registered],
    Lawful d :=
  holds (haveI := decLawful; inferInstance) (by decide +kernel)

theorem witness_StepTakesTheFrontCommand :
    (⟨[.hire 1 [0, 0], .stop 2 []], forHire⟩ : State).pending = [.hire 1 [0, 0], .stop 2 []] ∧ (of forHire).pending = [] :=
  ⟨rfl, rfl⟩

/-- A part as new, after a warning whose interruption does not count. -/
def newWarned : Device := { warned fresh with tariff := fresh.tariff }

theorem witness_NewPartPowersOnAsReset : ∀ d ∈ [fresh, newWarned],
    d.pins = { State.reset.dev.pins with supplyWarning := d.pins.supplyWarning } ∧ d.tariff.inForce = none
      ∧ d.tariff.revision = 0 ∧ d.tariff.lifetime = Lifetime.zero ∧ d.store = { records := [], next := 1 }
      ∧ d.meter.lastShift = 0 ∧ d.items = newItems ∧ d.sign.table = defaultPatterns ∧ fresh.backed = none := by
  decide +kernel

theorem witness_SupplyAndMeterLawsKept : Steps (.hire 1 [0, 0]) forHire := ⟨lawful_forHire, rfl⟩
theorem witness_SetInForceIsWhole : Steps (.tariffCommit 1 []) (loading smallSet.toStaging)
    ∧ (run (.tariffCommit 1 []) (loading { smallSet.toStaging with k := some 6001 })).tariff.inForce
      ≠ (loading { smallSet.toStaging with k := some 6001 }).tariff.inForce :=
  ⟨⟨lawful_parts _ (by simp), rfl⟩, by decide +kernel⟩
theorem witness_FareNeverDecreases : Steps (.tick false false false) (rolling hired)
    ∧ (rolling hired).meter.trip = some tripOne ∧ (run (.tick false false false) (rolling hired)).meter.trip.isSome = true :=
  ⟨⟨lawful_parts _ (by simp), rfl⟩, rfl, by decide +kernel⟩
theorem witness_HiredMetresStayBelowTotal : Steps (.tick false false false) (rolling hired)
    ∧ (run (.tick false false false) (rolling hired)).meter.shift.isSome = true :=
  ⟨⟨lawful_parts _ (by simp), rfl⟩, by decide +kernel⟩
theorem witness_TotalsNeverDecrease : Steps (.clear 1 []) stopped := ⟨lawful_stopped, rfl⟩
theorem witness_OffersAndBookingStayLawful : Steps (.book 1 [12]) registered := ⟨lawful_registered, rfl⟩
theorem witness_QueueStoreAndMailStayLawful : Steps (.sendText 1 [65]) registered := ⟨lawful_registered, rfl⟩
theorem witness_CallAndRegistrationStayLawful : Steps (.emergencyRaise 1 []) registered := ⟨lawful_registered, rfl⟩
theorem witness_SignAndLinkStayLawful : Steps (.emergencyRaise 1 []) registered
    ∧ (run (.emergencyRaise 1 []) registered).emergency.state = .raised := ⟨⟨lawful_registered, rfl⟩, by decide +kernel⟩

/-- The call has been raised, and slot 0 is to come. -/
def sending : Device := planned (some (8, .entry 1)) (calling .raised false (queuing [entry (.noshow 3) 1] registered))

theorem witness_OnlyPermittedBlocksAreSent : Steps .slotEmergency sending ∧ Steps .slotContention sending
    ∧ (run .slotEmergency sending).radio ≠ [] ∧ (run .slotContention sending).radio ≠ [] ∧ sending.radio = [] := by
  have h : Lawful sending := @of_decide_eq_true _ (decLawful _) (by decide +kernel)
  exact ⟨⟨h, rfl⟩, ⟨h, rfl⟩, by decide +kernel⟩
theorem witness_HeldPartKeepsItsRecords : (∀ d ∈ [warned hired, warned sending], d.link.accepting = false)
    ∧ exec (.tick true true true) (of (warned hired)) = .next (of (run (.tick true true true) (warned hired)))
    ∧ (run .slotEmergency (warned sending)).radio.length = 1 := by
  exact ⟨by decide +kernel, rfl, by decide +kernel⟩
theorem witness_FrameBytesAreTheirRequest : rowFrame (.signLoad 1 (List.replicate 200 0)) = some ⟨0x34, 1, List.replicate 200 0⟩
    ∧ (List.replicate 200 (0 : Byte)).length ≤ 200 ∧ fresh.link.rx = .hunting := by decide +kernel

/-- The input queue with `n` requests. -/
def waitingRequests (n : Nat) : Device :=
  { fresh with link := { fresh.link with inHand := some ⟨0x38, 9⟩, input := List.replicate n ⟨0x38, 1, []⟩ } }

theorem witness_RequestsAreTakenOrWait : rowFrame (.status 1 []) = some ⟨0x38, 1, []⟩ ∧ (warned fresh).link.accepting = false
    ∧ ((waitingRequests 4).link.accepting = true ∧ 4 ≤ (waitingRequests 4).link.input.length)
    ∧ ((waitingRequests 3).link.accepting = true ∧ (waitingRequests 3).link.input.length < 4
        ∧ (waitingRequests 3).link.inHand.isSome = true)
    ∧ Ready fresh ∧ told (.getConfig 1 [8]) fresh = some (.malformed, .none) :=
  holds (haveI := decBoth; inferInstance) (by decide +kernel)
theorem witness_BadRequestsRefused : Ready fresh ∧ (1 : Byte) ≠ 0
    ∧ (0x0A : Byte).toNat ∉ [0x01, 0x02, 0x03, 0x04, 0x05, 0x06, 0x07, 0x08, 0x09, 0x10, 0x11, 0x12, 0x13, 0x14, 0x18, 0x19, 0x1C,
          0x20, 0x21, 0x22, 0x23, 0x24, 0x25, 0x28, 0x29, 0x2A, 0x2B, 0x2C, 0x30, 0x31, 0x34, 0x35, 0x36, 0x38, 0x39, 0x3A,
          0x3B, 0x3C]
    ∧ 15 ∈ kindLength (0x19 : Byte).toNat ∧ ([1] : List Byte).length ≠ 15
    ∧ rowFrame (.position 1 [1]) = some ⟨0x19, 1, [1]⟩
    ∧ (∀ b ∈ ([[0, 1], [8, 1], [3, 3], [4, 2], []] : List (List Byte)), b.length ≤ 200 ∧ (byteAt b 0, byteAt b 1) ∉
          [(1, 1), (2, 1), (2, 2), (3, 1), (4, 3), (4, 4), (4, 5), (5, 1), (5, 2), (6, 1), (7, 1)])
    ∧ (∀ d ∈ [fresh, loading emptyStaging], Ready d ∧ d.link.rx = .hunting) ∧ fresh.tariff.load = none
    ∧ (loading emptyStaging).tariff.load ≠ none ∧ byteAt [0] 0 < 1 ∧ 7 < byteAt [8] 0 :=
  holds (haveI := decBoth; inferInstance) (by decide +kernel)

/-- The link sends this. -/
def transmitting (t : Transmitter) (d : Device) : Device := { d with link := { d.link with tx := t } }
/-- The receiver stands so. -/
def receiving (r : Receiver) : Device := { fresh with link := { fresh.link with rx := r } }
/-- A reply. -/
def replyOne : Reply := ⟨0x38, 9, .ok, .none, .none⟩

theorem witness_LinkEventsAct :
    (fresh.link.accepting = true ∧ fresh.link.tx = .idle)
    ∧ (let d := transmitting (.notice .unmetered)
         { fresh with link := { fresh.link with inHand := some ⟨0x38, 9⟩, replyWaiting := some replyOne } }
       d.link.accepting = true ∧ d.link.tx.isNotice = true ∧ d.link.inHand.isSome = true ∧ d.link.replyWaiting = some replyOne)
    ∧ (let d := transmitting (.notice .unmetered) fresh
       d.link.accepting = true ∧ d.link.tx.isNotice = true ∧ d.link.replyWaiting = none ∧ d.link.inHand = none ∧ d.link.input = [])
    ∧ (let d := transmitting (.reply replyOne) (waitingRequests 0)
       d.link.accepting = true ∧ d.link.tx.replyOf.isSome = true ∧ d.link.replyWaiting = none ∧ d.link.input = [])
    ∧ (∀ f ∈ [(⟨0x38, 1, []⟩ : Frame), ⟨0x3C, 1, []⟩],
       let d := transmitting (.reply replyOne) { fresh with link := { fresh.link with inHand := some ⟨0x38, 9⟩, input := [f, f] } }
       d.link.accepting = true ∧ d.link.tx.replyOf.isSome = true ∧ d.link.replyWaiting = none ∧ d.link.input = [f, f])
    ∧ rowFrame (.status 1 []) = some ⟨0x38, 1, []⟩ ∧ rowFrame (.reset 1 []) = some ⟨0x3C, 1, []⟩ ∧ (0x7F : Byte).toNat < 128
    ∧ fresh.link.rx.bytes = [] ∧ fresh.link.rx = .hunting
    ∧ (∀ body ∈ [([] : List Byte), List.replicate 200 0], body.length ≤ 200
        ∧ 65535 ≠ crc16 (BitVec.ofNat 8 body.length :: 0x38 :: 1 :: body))
    ∧ (Transmitter.reply replyOne).replyOf = some replyOne
    ∧ ((receiving ⟨[0x5A], 0, true⟩).link.rx.bytes = [0x5A] ∧ 200 < (201 : Byte).toNat)
    ∧ ((receiving ⟨[0x5A], 1, false⟩).link.rx.bytes ≠ [] ∧ (receiving ⟨[0x5A], 1, false⟩).link.rx.byteSeen = false
        ∧ (receiving ⟨[0x5A], 1, false⟩).link.rx.gap ≠ 0) := by decide +kernel
theorem witness_StatusMeterAndTotalsAreRead : LinkReady (covert (calling .raised true fresh)) ∧ (255 : Byte) ≠ 0
    ∧ (∀ d ∈ [hired, forHire, fresh], Ready d) ∧ hired.meter.state = .hired ∧ forHire.meter.shift.isSome = true :=
  holds (haveI := decReady; haveI := decBoth; inferInstance) (by decide +kernel)

theorem witness_MeterRequestsByState : ∀ d ∈ [fresh, offDuty, forHire, hired, stopped],
    Ready d ∧ MeterLaw d ∧ (1 : Byte) ≠ 0 ∧ (d.meter.state ≠ .offDuty ∨ d.meter.state ≠ .forHire)
      ∧ (d.meter.state ≠ .hired ∨ d.meter.state ≠ .stopped) :=
  holds (haveI := decBoth; haveI := decMeter; inferInstance) (by decide +kernel)
theorem witness_ShiftsOpenAndClose :
    (LinkReady offDuty ∧ offDuty.meter.state = .offDuty ∧ offDuty.tariff.load = none)
    ∧ (Ready (loading emptyStaging) ∧ (loading emptyStaging).meter.state = .offDuty ∧ (loading emptyStaging).tariff.load ≠ none)
    ∧ LinkReady forHire ∧ forHire.meter.state = .forHire ∧ forHire.meter.shift = some shiftOne ∧ (1 : Byte) ≠ 0 :=
  holds (haveI := decBoth; haveI := decReady; inferInstance) (by decide +kernel)
theorem witness_HireMakesTheTrip :
    (Fit forHire ∧ forHire.meter.state = .forHire ∧ forHire.tariff.inForce = some smallSet ∧ smallSet.schedule = []
      ∧ (0 : Byte).toNat < 1 ∧ 4 < (5 : Byte).toNat
      ∧ tariffAt smallSet.tariffs (3 : Byte).toNat = none ∧ tariffAt smallSet.tariffs (1 : Byte).toNat = some tariffOne
      ∧ tariffAt smallSet.tariffs smallSet.default = some tariffOne)
    ∧ (let d := under bandedSet forHire
       Fit d ∧ d.meter.state = .forHire ∧ d.tariff.inForce = some bandedSet ∧ bandedSet.schedule ≠ []
        ∧ d.vehicle.calendar.time = some ⟨0, 43200, 0⟩
        ∧ tariffAt bandedSet.tariffs (bandResult bandedSet ⟨0, 43200, 0⟩ false) = some tariffTwo)
    ∧ (let d := under bandedSet { forHire with vehicle := { forHire.vehicle with calendar := ⟨none, false⟩ } }
       Fit d ∧ d.meter.state = .forHire ∧ d.vehicle.calendar.time = none) :=
  holds (haveI := decFit; inferInstance) (by decide +kernel)
theorem witness_TripsStopGoOnAndEnd :
    (Fit hired ∧ hired.meter.trip = some tripOne ∧ hired.tariff.inForce = some smallSet ∧ hired.meter.state = .hired)
    ∧ (let d : Device := { stopped with meter := { stopped.meter with window := 0 } }
       Fit d ∧ d.meter.trip = some tripOne ∧ d.meter.state = .stopped ∧ d.meter.window = 0)
    ∧ Fit stopped ∧ stopped.meter.trip = some tripOne ∧ stopped.tariff.inForce = some smallSet
    ∧ stopped.meter.state = .stopped ∧ stopped.meter.window ≠ 0 :=
  holds (haveI := decFit; inferInstance) (by decide +kernel)
theorem witness_ExtrasAreAdded : ∀ d ∈ [hired, stopped],
    Ready d ∧ (d.meter.state = .hired ∨ d.meter.state = .stopped) ∧ d.meter.trip = some tripOne
      ∧ d.tariff.inForce = some smallSet ∧ 7 < (8 : Byte).toNat ∧ (7 : Byte).toNat ≤ 7
      ∧ place smallSet.supplements (1 : Byte).toNat = none ∧ place smallSet.supplements (0 : Byte).toNat = some ⟨150, 1⟩ :=
  holds (haveI := decBoth; inferInstance) (by decide +kernel)

/-- In HIRED, under the schedule, a tick has just changed the trip from tariff 2 to tariff 1, and 2 is scheduled at noon. -/
def replacing : Device := let d := under bandedSet hired
  { d with tariff := { d.tariff with scheduled := some 1 }, meter := { d.meter with replaced := some 2 } }

/-- R36: an evaluation that names the tariff the tick just replaced sets nothing; named later, R9 makes it pending. -/
theorem test_evaluation_taken_second : (evaluate replacing).meter.trip = some tripOne
    ∧ (evaluate replacing).tariff.scheduled = some 2 ∧ (evaluate replacing).meter.replaced = none
    ∧ ((evaluate { replacing with meter := { replacing.meter with replaced := none } }).meter.trip.map Trip.pendingTariff)
      = some (some 2) := by decide +kernel

/-- The sizes of tariff 1. -/
def sizesOne : Derived := derive 6000 tariffOne

theorem witness_FareAccrues : 0 < sizesOne.theta ∧ 0 < tariffOne.stepAmount ∧ tripOne.fare ≤ 999999
    ∧ { tripOne with fixedPrice := some 350 }.fixedPrice.isSome = true
    ∧ (tripOne.fixedPrice = none ∧ tripOne.flags.fareCapped = false ∧ tripOne.phase = .initial)
    ∧ (0 + max (6 * sizesOne.nt) sizesOne.np < sizesOne.theta)
    ∧ (350 + tariffOne.stepAmount * ((0 + max (1023 * sizesOne.nt) sizesOne.np) / sizesOne.theta) ≤ 999999)
    ∧ (999999 < 999990 + tariffOne.stepAmount * ((0 + max (1023 * sizesOne.nt) sizesOne.np) / sizesOne.theta))
    ∧ sizesOne.theta ≤ 0 + max (1023 * sizesOne.nt) sizesOne.np
    ∧ (∀ d ∈ [under bandedSet hired, replacing], d.meter.state = .hired ∧ d.meter.trip.isSome = true
        ∧ d.tariff.scheduled ≠ scheduleResult d)
    ∧ (∀ n ∈ replacing.meter.replaced, scheduleResult replacing = some n) ∧ forHire.meter.state ≠ .hired := by decide +kernel

/-- The queue is full and owes the part this. -/
def owing (f : Uplink → Uplink) (d : Device) : Device := let e := full d; { e with uplink := f e.uplink }
/-- A trip record waits, and the queue owes its entry. -/
def owesRecord : Device := owing (fun u => { u with accountingOwed := true }) (storing [kept 1] 2 registered)
/-- A receipt waits for room. -/
def owesReceipt : Device := mailing [{ letter with state := .read, receipt := .pending }] (full registered)

theorem witness_QueueTakesAndGivesRoom :
    (∀ d ∈ [registered, full registered], d.uplink.nextOrder ≤ 65535)
    ∧ (registered.uplink.entries.any fun e => e.msg == .status) = true
    ∧ ((full registered).uplink.entries.any fun e => e.msg == .status) = false ∧ (full registered).uplink.statusOwed = false
    ∧ 16 ≤ (full registered).uplink.entries.length ∧ registered.uplink.entries.length < 16
    ∧ ((storing [kept 1] 2 registered).store.records.find? fun r => r.mark == .waiting) = some (kept 1)
    ∧ (let d := owing (fun u => { u with statusOwed := true }) registered
       Lawful d ∧ entry (.noshow 3) 3 ∈ d.uplink.entries ∧ d.uplink.statusOwed = true)
    ∧ (Lawful owesRecord ∧ entry (.noshow 3) 3 ∈ owesRecord.uplink.entries ∧ owesRecord.uplink.statusOwed = false
        ∧ owesRecord.uplink.accountingOwed = true ∧ oldestWaiting owesRecord = some (kept 1))
    ∧ (Lawful owesReceipt ∧ entry (.noshow 3) 3 ∈ owesReceipt.uplink.entries ∧ owesReceipt.uplink.accountingOwed = false
        ∧ (owesReceipt.mail.mail.find? fun m => m.receipt == .pending).isSome = true)
    ∧ (Lawful (full registered) ∧ entry (.noshow 3) 3 ∈ (full registered).uplink.entries
        ∧ ((full registered).mail.mail.all fun m => m.receipt != .pending) = true) :=
  holds (haveI := decLawful; inferInstance) (by decide +kernel)

/-- A full store, its first record with an entry of the queue. -/
def fullStore : Device := queuing [entry (.shiftRecord 1) 1] (storing ((List.range 32).map fun n => kept (n + 1)) 33 registered)
/-- The numbers have all been used. -/
def usedUp : Device := storing [] 4294967296 registered

theorem witness_RecordsAreAppended :
    (Lawful registered ∧ registered.store.next ≤ 4294967295 ∧ registered.store.records.length < 32)
    ∧ (Lawful usedUp ∧ 4294967295 < usedUp.store.next)
    ∧ (Lawful fullStore ∧ fullStore.store.next ≤ 4294967295 ∧ fullStore.store.records.length = 32
        ∧ (fullStore.store.records.find? fun r => r.mark != .inFlight) = some (kept 1)) :=
  holds (haveI := decLawful; inferInstance) (by decide +kernel)

/-- A block with this content. -/
def carrying (c : Content) : UplinkBlock := ⟨5, none, some 2, 0, 1, c⟩

theorem witness_RecordsAndBlocksHaveTheirBytes : (List.replicate 16 (65 : Byte)).length ≤ 16
    ∧ (carrying (.text 255 (List.replicate 16 65))).bytes.length = 36 ∧ ((kept 1).bytes.take 28).length = 28
    ∧ (⟨0, some 4294967295, none, 0, 1, .logon ⟨3, 1⟩⟩ : UplinkBlock).identity = some 4294967295
    ∧ (carrying (.noshow 3)).identity = none
    ∧ Lawful fullStore ∧ kept 1 ∈ fullStore.store.records :=
  holds (haveI := decLawful; inferInstance) (by decide +kernel)

/-- A full table of offers, the roles held. -/
def fullTable : Device := offering [offerOne, bidOn, active, following, { offerOne with job := 13 }, { offerOne with job := 14 }]
/-- The same while a trip is in progress. -/
def hiredTable : Device := shown { fullTable with meter := hired.meter }

theorem witness_OffersAreRemoved :
    (Lawful fullTable ∧ active ∈ fullTable.offers.entries ∧ fullTable.link.notices.length + 2 ≤ 16
        ∧ offerOne ∈ fullTable.offers.entries ∧ offerOne.bidUndelivered = false ∧ fullTable.offers.booking = .none)
    ∧ (let d := booked (.booked 12 2) bidding
       Lawful d ∧ { offerOne with state := .bidding false none } ∈ d.offers.entries ∧ d.offers.booking ≠ .none) :=
  holds (haveI := decLawful; inferInstance) (by decide +kernel)

theorem witness_LoadsAndScheduleAreStaged :
    (Ready offDuty ∧ offDuty.tariff.switch.isOpen = false ∧ offDuty.tariff.load = none ∧ (1 : Byte) ≠ 0)
    ∧ (let d : Device := { forHire with tariff := { forHire.tariff with switch := ⟨true, 0⟩ } }
       Ready d ∧ d.tariff.switch.isOpen = true ∧ d.meter.state ≠ .uncalibrated ∧ d.meter.state ≠ .offDuty)
    ∧ (∀ d ∈ [loading emptyStaging,
          { loading emptyStaging with tariff := { (loading emptyStaging).tariff with load := none, revision := 65535 } }],
        Ready d ∧ d.tariff.switch.isOpen = true ∧ (d.meter.state = .uncalibrated ∨ d.meter.state = .offDuty)
          ∧ (d.tariff.load.isSome = true ∨ 65535 ≤ d.tariff.revision))
    ∧ (Ready offDuty ∧ offDuty.tariff.load = none ∧ Ready (loading bandedSet.toStaging)
    ∧ (loading bandedSet.toStaging).tariff.load = some bandedSet.toStaging ∧ ScheduleLaw bandedSet.toStaging.schedule
    ∧ field [1, 5, 0x9F, 4] 1 2 = 1439 ∧ field [5, 0x9F, 7] 0 2 = 1439 ∧ byteAt [5, 0x9F, 7] 2 = 7) :=
  holds (haveI := decBoth; haveI := decSchedule; inferInstance) (by decide +kernel)

theorem witness_TariffItemsAreStaged : Ready offDuty ∧ offDuty.tariff.load = none ∧ Ready (loading emptyStaging)
    ∧ (loading emptyStaging).tariff.load = some emptyStaging ∧ (1 : Byte) ≠ 0
    ∧ (field [0x03, 0xE8] 0 2 = 1000 ∧ field [0xEA, 0x60] 0 2 = 60000)
    ∧ (let f : List Byte := [4, 2, 1, 0x86, 0x9F, 0, 0, 0, 0, 0x27, 0x0F, 0x13, 0x88, 0x0E, 0x10]
       f.length = 15 ∧ byteAt f 0 ≤ 4 ∧ byteAt f 1 ≤ 2 ∧ field f 2 3 = 99999 ∧ (field f 5 2 = 0 ↔ field f 7 2 = 0)
        ∧ field f 9 2 = 9999 ∧ field f 11 2 = 5000 ∧ field f 13 2 = 3600)
    ∧ field [7, 0x27, 0x0F, 1] 1 2 = 9999 ∧ byteAt [7, 0x27, 0x0F, 1] 3 = 1
    ∧ field [0, 0, 0, 1, 0, 1] 0 4 = 1 ∧ field [0, 0, 0, 1, 0, 1] 4 2 = 1 :=
  holds (haveI := decBoth; inferInstance) (by decide +kernel)

/-- The part registered, with its switch OPEN, its shift closed, and a load of this set. -/
def reloading (st : Staging) : Device := shown { registered with
  meter := { registered.meter with state := .offDuty, shift := none }
  tariff := { registered.tariff with switch := ⟨true, 0⟩, load := some st } }
/-- A load while no set is in force. -/
def firstLoad : Device := { fresh with tariff := { fresh.tariff with switch := ⟨true, 0⟩, load := some smallSet.toStaging } }

theorem witness_CommitInstallsTheSet :
    (Fit offDuty ∧ offDuty.tariff.load = none ∧ (1 : Byte) ≠ 0)
    ∧ (∀ st ∈ [emptyStaging, { emptyStaging with k := some 6000 }, { emptyStaging with k := some 6000, identity := some ⟨7, 3⟩ },
          { smallSet.toStaging with schedule := [⟨255, 0, 1⟩, ⟨255, 360, 4⟩] },
          { smallSet.toStaging with supplements := smallSet.supplements.set 3 (some ⟨1, 2⟩) },
          { smallSet.toStaging with tariffs := [some tariffOne, some { tariffTwo with ds := 5000 }, none, none], k := some 60000 },
          { smallSet.toStaging with identity := some ⟨8, 3⟩ }], Fit (reloading st) ∧ (reloading st).tariff.load = some st)
    ∧ (bandedSet.toStaging.schedule.findIdx? fun b => (tariffAt [some tariffOne, none, none, none] b.tariff).isNone) = some 1
    ∧ firstStepFault 60000 [some tariffOne, some { tariffTwo with ds := 5000 }, none, none] = some (.np 2)
    ∧ firstStepFault 6000 smallSet.tariffs = none
    ∧ (Fit firstLoad ∧ firstLoad.meter.state = .uncalibrated ∧ firstLoad.channel.loggedOnAs = none)
    ∧ (reloading smallSet.toStaging).channel.loggedOnAs = some smallSet.identity :=
  holds (haveI := decFit; inferInstance) (by decide +kernel)

theorem witness_SetAndItemsAreRead : Ready offDuty ∧ (1 : Byte) ≠ 0 ∧ offDuty.tariff.load = none
    ∧ (0 : Byte).toNat ≠ 1 ∧ (3 : Byte).toNat ≠ 2 ∧ (2 : Byte).toNat = 2
    ∧ Ready (loading emptyStaging) ∧ (loading emptyStaging).tariff.load.isSome = true :=
  holds (haveI := decBoth; inferInstance) (by decide +kernel)

theorem witness_ClockAndPositionAreSet :
    (Ready forHire ∧ forHire.tariff.switch.isOpen = false ∧ forHire.vehicle.calendar.time.isSome = true
      ∧ ([0, 0, 0, 0, 0] : List Byte).length = 5)
    ∧ (Ready offDuty ∧ offDuty.vehicle.calendar.time = none ∧ field [0, 0, 1, 0x51, 0x80] 2 3 = 86400
      ∧ field [0, 0, 1, 0x51, 0x7F] 2 3 = 86399)
    ∧ 2 < byteAt [0, 3] 1
    ∧ (let b : List Byte := [1, 2, 0xFF, 0x76, 0xAB, 0xC0, 1, 0x12, 0xA8, 0x80, 0xFF, 0xFF, 1, 0x51, 0x7F]
       b.length = 15 ∧ byteAt b 1 = 2 ∧ (field b 2 4 : Int) - 4294967296 = -9000000 ∧ field b 6 4 = 18000000
        ∧ field b 12 3 = 86399 ∧ field b 10 2 ≤ 65535) :=
  holds (haveI := decBoth; inferInstance) (by decide +kernel)

theorem witness_DriverAnswersOffers :
    (Ready (offering []) ∧ field [0, 0, 0] 0 3 = 0 ∧ field [0, 0, 1] 0 3 = 1 ∧ (1 : Byte) ≠ 0)
    ∧ (Ready fullTable ∧ ∀ b ∈ [([0, 0, 11] : List Byte), [0, 0, 12], [0, 0, 10], [0, 0, 9]],
        b.length = 3 ∧ (fullTable.offers.entries.find? fun o => o.job == field b 0 3).isSome = true)
    ∧ active.isActive = true ∧ following.isForward = true ∧ bidOn.isBidding = true ∧ offerOne.isOffered = true
    ∧ (ask (.bid 9) fullTable).1 = .added ∧ (ask (.bid 9) (full fullTable)).1 ≠ .added ∧ Ready (full fullTable)
    ∧ active.state = .active false ∧ offerOne.state ≠ .active false :=
  holds (haveI := decBoth; inferInstance) (by decide +kernel)

theorem witness_BookingFollowsItsRules :
    (Ready registered ∧ (0 : Byte).toNat = 0 ∧ 250 < (251 : Byte).toNat ∧ (1 : Byte).toNat ≤ 250 ∧ (250 : Byte).toNat ≤ 250
      ∧ registered.meter.state = .forHire ∧ registered.channel.reg = .registered ∧ registered.offers.booking = .none)
    ∧ (Ready forHire ∧ forHire.channel.reg ≠ .registered)
    ∧ (Ready (calling .raised false registered) ∧ (calling .raised false registered).emergency.state ≠ .quiet)
    ∧ Ready (booked (.pending 12) registered) ∧ (booked (.pending 12) registered).offers.booking ≠ .none :=
  holds (haveI := decBoth; inferInstance) (by decide +kernel)

theorem witness_ListsAreRead : Ready fullTable ∧ (1 : Byte) ≠ 0 ∧ ([1, 0, 0, 9] : List Byte).length = 4
    ∧ (byteAt [1, 0, 0, 9] 0).testBit 0 = true ∧ (byteAt [0, 0, 0, 0] 0).testBit 0 = false :=
  holds (haveI := decBoth; inferInstance) (by decide +kernel)

/-- A letter read, of its receipt given. -/
def readLetter : Mail := { letter with state := .read, receipt := .delivered }

theorem witness_DriverHandlesMail : (1 : Byte) ≠ 0 ∧ field [0, 20] 0 2 = 20
    ∧ (∀ d ∈ [mailing [] registered, mailing [letter] registered, mailing [{ letter with cls := .normal }] registered,
        mailing [readLetter] registered, owesReceipt, mailing [letter] (full registered)], Ready d ∧ MailLaw d)
    ∧ (letter.codes.any fun x => x.toNat == 2) = true ∧ (letter.codes.any fun x => x.toNat == 3) = false
    ∧ (List.replicate 161 (0x20 : Byte)).length = 161
    ∧ (List.replicate 160 (0xFE : Byte)).all (fun x => decide (0x20 ≤ x.toNat ∧ x.toNat ≤ 0xFE)) = true
    ∧ ([0xFF] : List Byte).all (fun x => decide (0x20 ≤ x.toNat ∧ x.toNat ≤ 0xFE)) = false
    ∧ (ask (.text 0 [65]) (full registered)).1 ≠ .added :=
  holds (haveI := decBoth; haveI := decMail; inferInstance) (by decide +kernel)

/-- The panic debounce stands so. -/
def pressing (p : PanicDebounce) (d : Device) : Device := { d with vehicle := { d.vehicle with panic := p } }

theorem witness_CallsAreRaised : (1 : Byte) ≠ 0
    ∧ (∀ d ∈ [booked (.booked 12 2) registered, calling .cancelling true registered],
        Ready d ∧ (d.emergency.state = .quiet ∨ d.emergency.state = .cancelling) ∧ d.emergency.number ≤ 255)
    ∧ (∀ d ∈ [calling .raised false registered, calling .acknowledged true registered],
        Ready d ∧ d.emergency.state ≠ .quiet ∧ d.emergency.state ≠ .cancelling ∧ d.emergency.number ≤ 255)
    ∧ (∀ d ∈ [pressing ⟨false, 4⟩ fullTable, pressing ⟨false, 4⟩ (waitingRequests 1)],
        d.link.accepting = true ∧ d.ahead.panic = false ∧ d.vehicle.panic = ⟨false, 4⟩ ∧ d.emergency.number ≤ 255)
    ∧ (waitingRequests 1).link.inHand.isSome = true :=
  holds (haveI := decBoth; inferInstance) (by decide +kernel)

theorem witness_CallsAreAnsweredAndWithdrawn : (1 : Byte) ≠ 0
    ∧ (∀ d ∈ [registered, calling .acknowledged true registered, calling .cancelling true registered,
        { calling .raised true registered with emergency := { (calling .raised true registered).emergency with window := 0 } },
        calling .raised true registered, calling .raised false registered], Ready d)
    ∧ (let d := calling .raised true registered
       Taken (.emergencyAck (.short 5) none 4) d ∧ d.emergency.number = 4 ∧ Taken (.emergencyAck .all (some 7) 3) d
        ∧ Taken (.emergencyClear (.short 5) none 4) d ∧ Taken (.emergencyClear .all (some 7) 5) d)
    ∧ Taken (.emergencyClear (.short 5) none 0) registered ∧ registered.emergency.state = .quiet
    ∧ Taken (.emergencyAck (.short 5) none 0) registered :=
  holds (haveI := decBoth; haveI := decTaken; inferInstance) (by decide +kernel)

theorem witness_SignAndDisplayAct : Ready offDuty ∧ offDuty.sign.table.length = 8 ∧ (1 : Byte) ≠ 0
    ∧ offDuty.tariff.switch.isOpen = false ∧ byteAt [0, 0] 1 < 1 ∧ 8 < byteAt [0, 9] 1
    ∧ (let b : List Byte := 0 :: 8 :: List.replicate 32 3
       b.length = 2 + 4 * byteAt b 1 ∧ byteAt b 1 ≤ 8 ∧ 8 ≤ byteAt b 0 + byteAt b 1)
    ∧ (let b : List Byte := [6, 1, 0, 1, 2, 3]
       b.length = 2 + 4 * byteAt b 1 ∧ 1 ≤ byteAt b 1 ∧ byteAt b 0 + byteAt b 1 < 8)
    ∧ offDuty.sign.table[offDuty.sign.selected]?.isSome = true
    ∧ 7 < byteAt [8, 1, 0, 0, 0, 0] 0 ∧ byteAt [0] 0 = 0 ∧ byteAt [1] 0 = 1 ∧ 1 < byteAt [2] 0 :=
  holds (haveI := decBoth; inferInstance) (by decide +kernel)

theorem witness_ItemsAreConfigured : Ready fresh ∧ fresh.tariff.switch.isOpen = false ∧ (1 : Byte) ≠ 0
    ∧ Ready (loading emptyStaging) ∧ (loading emptyStaging).tariff.switch.isOpen = true
    ∧ (byteAt [1] 0 ≤ 1 ∧ 1 < byteAt [2] 0 ∧ 2 < byteAt [3] 0)
    ∧ (let b : List Byte := [4, 0, 0, 0, 1, 0, 2, 0xFF, 0xFF]
       b.length = 1 + 2 * byteAt b 0 ∧ ((List.range (byteAt b 0)).map fun i => field b (1 + 2 * i) 2).Nodup)
    ∧ byteAt [4, 1] 0 ≤ 4 ∧ byteAt [4, 1] 1 ≤ 1 ∧ ([] : List Byte).length ≠ 1 ∧ ([1, 0, 0] : List Byte).length ≠ 2 :=
  holds (haveI := decBoth; inferInstance) (by decide +kernel)

/-! ### Registration, blocks and the radio cycle -/

/-- The part in this registration state. -/
def station (reg : RegState) (address network : Option Nat) (logon : Option Logon) (lost : Option Nat) (hold : Nat) : Device :=
  { registered with channel := { registered.channel with reg, address, network, logon, lostPeriod := lost, holdTimer := hold } }
/-- The part in LOGON_WAIT with this attempt. -/
def waitingLogon (attempt : Nat) (wait : LogonWait) : Device :=
  station .logonWait none (some 1) (some ⟨.logon, attempt, wait⟩) none 0
/-- The part barred, its address kept or not. -/
def barred (address : Option Nat) : Device := station .barred address (some 1) none none 0
/-- The part whose channel has failed, the period well on. -/
def lostPart (address : Option Nat) (n : Nat) : Device := station .lost address (some 1) none (some n) 0
/-- The part in INCOMPATIBLE, in the cycle of a network it was in. -/
def incompatible : Device := station .incompatible none none none none 0

theorem lawful_stations : ∀ d ∈ [station .searching none none none none 0, waitingLogon 1 .handed, waitingLogon 7 (.sent 1),
    waitingLogon 8 (.sent 1), waitingLogon 7 .backoffDue, waitingLogon 2 (.backoff 1), barred (some 5), barred none,
    lostPart (some 5) 10, lostPart none 1199, incompatible, station .logonHold none (some 1) none none 600], Lawful d :=
  holds (haveI := decLawful; inferInstance) (by decide +kernel)

theorem witness_RegistrationIsDropped : (1 : Byte) ≠ 0
    ∧ Fit fullTable ∧ fullTable.channel.reg ≠ .barred ∧ Fit (barred (some 5)) ∧ (barred (some 5)).channel.reg = .barred
    ∧ Fit (flying (.noshow 3) (.ackWait 4)) ∧ Taken (.networkReset .all) fullTable
    ∧ Taken (.networkReset (.short 5)) fullTable ∧ Taken (.networkReset (.short 5)) (barred (some 5)) ∧ Taken (.networkReset .all) (barred (some 5))
    ∧ fullTable.channel.reg ∉ [RegState.barred, .incompatible] :=
  holds (haveI := decFit; haveI := decTaken; inferInstance) (by decide +kernel)

theorem witness_HostResetEmptiesTheBlocks : (1 : Byte) ≠ 0 ∧ Fit forHire ∧ forHire.meter.state = .forHire
    ∧ Fit (calling .raised true offDuty) ∧ (calling .raised true offDuty).emergency.state ≠ .quiet
    ∧ Fit (reloading smallSet.toStaging) ∧ (reloading smallSet.toStaging).meter.state = .offDuty
    ∧ (reloading smallSet.toStaging).emergency.state = .quiet :=
  holds (haveI := decFit; inferInstance) (by decide +kernel)

theorem witness_BaseOrdersRegistration :
    (∀ d ∈ [waitingLogon 1 .handed, registered, barred (some 5), barred none],
        Lawful d ∧ Taken (.assign .all 7 2000) d ∧ Taken (.assign .all 7 0) d ∧ Taken (.bar .all 7) d ∧ Taken (.unbar .all 7) d)
    ∧ (registered.channel.address = some 5 ∧ Taken (.assign .all 7 5) registered ∧ Taken (.assign (.short 5) 7 6) registered
        ∧ (registered.tariff.inForce.map fun x => x.identity.cab) = some 7 ∧ Taken (.assign (.short 5) 8 6) registered
        ∧ Taken (.bar (.short 5) 8) registered ∧ Taken (.unbar (.short 5) 8) (barred (some 5)))
    ∧ (Lawful (station .searching none none none none 0) ∧ Taken (.assign .all 7 1) (station .searching none none none none 0))
    ∧ (∀ c ∈ [Instr.assign (.short 6) 7 9, .bar (.short 6) 7, .networkReset (.short 6), .offer (.short 6) 7 true 0 10 0,
          .offerDetail (.short 6) 7 0 [], .award (.short 6) 7, .withdraw (.short 6) 7, .jobCancel (.short 6) 7,
          .zonePosition (.short 6) 1 9, .emergencyAck (.short 6) none 9, .emergencyClear (.short 6) none 9,
          .emergencyAck .all (some 8) 9, .emergencyClear .all (some 8) 9, .textPart (.short 6) ⟨30, none, 0, 1, 0, [65]⟩],
        (rowBlock c).isSome = true ∧
        ¬ Taken c registered ∧ ¬ Taken c (warned registered)) :=
  holds (haveI := decLawful; haveI := decTaken; inferInstance) (by decide +kernel)

theorem witness_OffersArriveByRadio :
    (∀ d ∈ [registered, offering [offerOne], offering [bidOn], fullTable, offering [offerOne, bidOn, active, following]],
        Lawful d ∧ Taken (.offer (.short 5) 9 false 250 255 999999) d ∧ Taken (.offer (.short 5) 16777215 false 0 0 0) d
          ∧ Taken (.offer (.short 5) 0 false 0 5 0) d ∧ Taken (.offerDetail (.short 5) 9 2 [65]) d
          ∧ Taken (.offerDetail (.short 5) 9 3 [65]) d)
    ∧ (let d := booked (.booked 12 2) registered
       Lawful d ∧ Taken (.offer (.zone 12) 9 false 0 10 0) d ∧ Taken (.zonePosition (.short 5) 12 0) d
        ∧ Taken (.zonePosition (.short 5) 12 255) d ∧ Taken (.zonePosition (.short 5) 12 2) d ∧ bookingIn 12 d = true)
    ∧ (let d := hiredTable
       Lawful d ∧ d.meter.state = .hired ∧ Taken (.offer (.short 5) 20 true 0 10 0) d) :=
  holds (haveI := decLawful; haveI := decTaken; inferInstance) (by decide +kernel)

/-- A zone offer not bid on. -/
def zoned : Offer := { offerOne with origin := .zone 12 }

theorem witness_AwardsAndWithdrawalsAct :
    (∀ d ∈ [registered, offering [zoned], bidding, fullTable, hiredTable],
        Lawful d ∧ ∀ j ∈ [0, 1, 9, 10, 11, 12, 16777215, 16777216], Taken (.award (.short 5) j) d ∧ Taken (.withdraw (.short 5) j) d
          ∧ Taken (.jobCancel (.short 5) j) d)
    ∧ zoned.isOffered = true ∧ bidOn.isBidding = true :=
  holds (haveI := decLawful; haveI := decTaken; inferInstance) (by decide +kernel)

/-- The first part of message 30. -/
def partZero : TextPart := ⟨30, some .normal, 0, 2, 0, List.replicate 16 65⟩
/-- Its last part, with two codes. -/
def partOne : TextPart := ⟨30, some .normal, 1, 2, 2, [66, 5, 5]⟩
/-- The part with these buffers. -/
def buffering (a b : Option Partial) : Device := { registered with mail := { registered.mail with first := a, second := b } }
/-- A buffer that holds the first part of message `n`. -/
def half (n : Nat) : Partial := ⟨n, .normal, 2, [⟨0, List.replicate 16 65⟩], none, 3⟩

theorem witness_TextPartsAssemble :
    (∀ d ∈ [registered, buffering (some (half 30)) none, buffering (some (half 31)) (some (half 30)),
        buffering (some (half 31)) (some (half 32)), buffering none (some { half 31 with headers := 8 }),
        calling .raised true (covert registered), mailing ((List.range 8).map fun n => { letter with number := n }) registered],
        Lawful d ∧ ∀ p ∈ [partZero, partOne, ⟨30, some .normal, 0, 1, 4, [65, 1, 2, 3, 4]⟩, ⟨30, none, 0, 1, 0, [65]⟩,
          ⟨30, some .normal, 2, 2, 0, [65]⟩, ⟨30, some .normal, 0, 1, 5, [65]⟩], Taken (.textPart .all p) d)
    ∧ ((half 30).number == partOne.number) = true ∧ partOne.positions.length = 3 :=
  holds (haveI := decLawful; haveI := decTaken; inferInstance) (by decide +kernel)

theorem witness_SupplyIsLostAndReturns :
    ((warned stopped).link.accepting = false ∧ stopped.link.accepting = true)
    ∧ ∀ d ∈ [fresh, stopped, warned stopped, warned (calling .acknowledged true registered),
        warned { stopped with vehicle := { stopped.vehicle with calendar := ⟨some ⟨65535, 86399, 9⟩, true⟩ } }, fullStore], Lawful d :=
  holds (haveI := decLawful; inferInstance) (by decide +kernel)

/-- The clock at the last tick of a second. -/
def timed (t : ClockTime) (d : Device) : Device := { d with vehicle := { d.vehicle with calendar := ⟨some t, false⟩ } }

/-- The switch debounce stands so. -/
def switching (w : CalSwitch) (d : Device) : Device := { d with tariff := { d.tariff with switch := w } }
/-- The seat taken, the check on, 199 m without a trip, and 6 edges to come. -/
def creeping : Device := rolling { forHire with
  items := { forHire.items with occupancyCheck := true }
  vehicle := { forHire.vehicle with occupancy := ⟨true, 9⟩, unmetered := ⟨199, 0, false, 0⟩ } }

/-- A part whose timers are at their last ticks. -/
def lastTicks : Device := offering [{ offerOne with count := 1 }, { bidOn with state := .bidding true (some 1) }]
/-- A call at the last tick of its track timer. -/
def tracking : Device := let d := calling .acknowledged true registered
  { d with emergency := { d.emergency with track := some 1 } }
/-- A record held to its last tick. -/
def holding : Device :=
  queuing [{ entry (.shiftRecord 1) 1 with attempts := 6, state := .held 1 }] (storing [{ kept 1 with mark := .held }] 2 registered)
/-- A loss timer that has run to this. -/
def fading (n : Nat) (d : Device) : Device := { d with channel := { d.channel with lossTimer := n } }

/-- A trip in HIRED under the schedule, at the last tick of a minute that changes what is scheduled. -/
def ofTheMinute : Device := timed ⟨3, 21599, 9⟩ (rolling (under bandedSet { hired with tariff := { hired.tariff with scheduled := some 1 } }))
/-- The same where this tick's accrual goes over from tariff 2 to tariff 1. -/
def ofTheChange : Device := shown { ofTheMinute with meter := { ofTheMinute.meter with
  trip := some { tripOne with
    tariff := 2, used := ⟨false, true, false, false⟩, phase := .normal
    accumulator := (derive 6000 tariffTwo).theta - 1, pendingTariff := some 1 } } }

/-- R36 at a tick: the evaluation of the minute, taken after the accrual, names the tariff it replaced, and sets nothing. -/
theorem test_tick_then_evaluation :
    ((run (.tick false false false) ofTheChange).meter.trip.map fun t => (t.tariff, t.pendingTariff)) = some (1, none)
    ∧ (run (.tick false false false) ofTheChange).tariff.scheduled = some 2
    ∧ ((run (.tick false false false) ofTheMinute).meter.trip.map fun t => (t.tariff, t.pendingTariff)) = some (1, some 2) := by
  decide +kernel

theorem witness_TickRunsThePart :
    (∀ d ∈ [fresh, stopped, warned stopped, rolling hired, timed ⟨3, 59, 9⟩ (rolling hired), timed ⟨3, 86399, 9⟩ stopped,
        timed ⟨65535, 86399, 9⟩ forHire, pressing ⟨false, 4⟩ fullTable, ofTheMinute, ofTheChange,
        { hired with vehicle := { hired.vehicle with forward := 1024 } }], Lawful d)
    ∧ (rolling hired).link.accepting = true ∧ (rolling hired).meter.state = .hired ∧ (rolling hired).meter.trip = some tripOne
    ∧ (rolling hired).tariff.inForce = some smallSet ∧ tariffAt smallSet.tariffs tripOne.tariff = some tariffOne
    ∧ (rolling hired).meter.shift = some shiftOne ∧ (warned stopped).link.accepting = false ∧ stopped.meter.state = .stopped
    ∧ (∀ d ∈ [creeping, lastTicks, tracking, holding, fading 298 registered, lostPart (some 5) 1198,
        { station .logonHold none (some 1) none none 2 with ahead := Ahead.clear }, receiving ⟨[0x5A], 1, false⟩,
        receiving ⟨[0x5A], 0, true⟩, { booked (.pending 12) registered with
          offers := { (booked (.pending 12) registered).offers with answer := some 1 } },
        { calling .raised true registered with ahead := { Ahead.clear with channel := true } }],
        Lawful d ∧ d.link.accepting = true)
    ∧ (creeping.items.occupancyCheck = true ∧ creeping.vehicle.occupancy.taken = true ∧ creeping.vehicle.unmetered.stopped = false)
    ∧ (∃ e ∈ holding.uplink.entries, e.isHeld = true) ∧ fresh.vehicle.panic ≠ ⟨false, 4⟩
    ∧ (calling .raised true registered).emergency.window = 100 ∧ tracking.emergency.track = some 1
    ∧ registered.channel.lossTimer < 299 ∧ registered.ahead.channel = false :=
  holds (haveI := decLawful; inferInstance) (by decide +kernel)

theorem witness_TickPartsTakeTheirShare :
    (∀ d ∈ [{ stopped with meter := { stopped.meter with window := 1 } }, timed ⟨3, 59, 9⟩ forHire, timed ⟨65535, 86399, 9⟩ forHire,
        pressing ⟨true, 4⟩ forHire, creeping, switching ⟨false, 4⟩ forHire, switching ⟨true, 4⟩ (loading emptyStaging), forHire,
        { calling .raised true registered with emergency := { (calling .raised true registered).emergency with window := 1 } }],
        ClockLaw d.vehicle.calendar ∧ d.link.accepting = true ∧ d.ahead = .clear)
    ∧ (59 + 1) % 60 = 0 ∧ creeping.vehicle.occupancy.count = 9 ∧ creeping.meter.state = .forHire
    ∧ 200 ≤ 199 + (0 + 6 * 1000) / smallSet.k ∧ (warned forHire).link.accepting = false
    ∧ forHire.meter.window ≠ 1 ∧ forHire.emergency.window ≠ 1 ∧ forHire.tariff.switch.count ≠ 4 :=
  holds (haveI := decClock; inferInstance) (by decide +kernel)

/-- Fifteen phase errors in the window, this tick's among them. -/
def shaking (d : Device) : Device := { d with vehicle := { d.vehicle with phaseErrors := [5, 10, 0, 0, 0, 0, 0, 0, 0, 0] } }

theorem witness_WheelEdgesAreCounted :
    (∀ d ∈ [shaking hired, hired, warned hired, { hired with vehicle := { hired.vehicle with fault := true } }], VehicleLaw d)
    ∧ (shaking hired).link.accepting = true ∧ (shaking hired).items.sensorMode = .quadrature ∧ (shaking hired).vehicle.fault = false
    ∧ 16 ≤ ([6, 10, 0, 0, 0, 0, 0, 0, 0, 0] : List Nat).sum
    ∧ ((warned hired).link.accepting = false ∧ (transmitting (.notice .unmetered) (warned hired)).link.tx ≠ .idle
        ∧ (warned hired).link.replyWaiting = none)
    ∧ (let d : Device := { warned hired with link := { (warned hired).link with tx := .idle, replyWaiting := some replyOne } }
       VehicleLaw d ∧ d.link.accepting = false ∧ d.link.tx = .idle ∧ d.link.replyWaiting = some replyOne) :=
  holds (haveI := decVehicle; inferInstance) (by decide +kernel)

theorem witness_TimersRunOut :
    (∀ d ∈ [lastTicks, tracking, holding, fading 299 registered, fading 300 (waitingLogon 1 .handed), fading 298 registered,
        lostPart (some 5) 1199, station .logonHold none (some 1) none none 1, warned lastTicks,
        { booked (.pending 12) registered with offers := { (booked (.pending 12) registered).offers with answer := some 1 } }],
        Lawful d ∧ (d.link.accepting = false ∨ d.ahead = .clear))
    ∧ (holding.uplink.entries.any fun e => e.state == .held 1) = true :=
  holds (haveI := decLawful; inferInstance) (by decide +kernel)

/-- A header of network 1 in one part: its level, its cycle, the sizes of its lists and its list stream. -/
def blockOf (level cycle grants acks polls : Byte) (stream : List Byte) : List Byte :=
  let inner : List Byte := [1, 0, 1, 0, 1, level, cycle, 0, 0, 0, 0xA8, 0xC0, 0, 12, 7, grants, acks, polls] ++ stream
  inner ++ writeBytes 2 (crc16 inner)
/-- Part 0 of a header of `n` parts, with two grants. -/
def partOf (n : Byte) : List Byte :=
  let inner : List Byte := [1, 0, n, 0, 1, 1, 5, 0, 0, 0, 0xA8, 0xC0, 0, 12, 7, 2, 0, 0, 0, 5, 2, 2]
  inner ++ writeBytes 2 (crc16 inner)

theorem witness_CyclesBeginWithTheirHeader :
    (∀ d ∈ [flying (.text 0 [65]) (.granted 2 0), collecting registered, registered, warned registered], Lawful d)
    ∧ collect [] (partOf 0) = .damage ∧ collect [] (partOf 5) = .damage ∧ collect [] (partOf 4) = .more [partOf 4]
    ∧ collect [] (partOf 1) = .damage ∧ collect [] (List.replicate 24 0) = .damage
    ∧ (∃ h, collect [] (blockOf 1 5 1 0 0 [0, 5, 2, 2]) = .complete h)
    ∧ (collecting registered).link.accepting = true ∧ (collecting registered).channel.headerRx = .collecting []
    ∧ (warned registered).link.accepting = false := by
  refine ⟨holds (haveI := decLawful; inferInstance) (by decide +kernel), by decide +kernel, by decide +kernel, by decide +kernel,
    by decide +kernel, by decide +kernel, ⟨usableHeader (readHeader [blockOf 1 5 1 0 0 [0, 5, 2, 2]]), by decide +kernel⟩, rfl, rfl, rfl⟩

/-- A header of one part reaches a lawful part that collects it. -/
def Reaches (d : Device) (b : List Byte) : Prop :=
  Lawful (collecting d) ∧ d.link.accepting = true ∧ collect [] b = .complete (usableHeader (readHeader ([] ++ [b])))
/-- Whether it does. -/
def decReaches (d : Device) (b : List Byte) : Decidable (Reaches d b) := by haveI := decLawful; unfold Reaches; infer_instance
/-- A header of a level out of reach. -/
def tooHigh : List Byte := blockOf 4 5 0 0 0 [0, 0, 0, 0]

theorem witness_HeadersAreJudged :
    (∀ d ∈ [station .searching none none none none 0, incompatible, fresh, lostPart (some 5) 10, lostPart none 1199,
        waitingLogon 1 .handed, waitingLogon 7 (.sent 1), waitingLogon 8 (.sent 1), waitingLogon 7 .backoffDue,
        waitingLogon 2 (.backoff 0), waitingLogon 2 (.sent 2), registered, barred (some 5),
        station .logonHold none (some 1) none none 600], Reaches d (block 1) ∧ Reaches d (block 2) ∧ Reaches d tooHigh)
    ∧ (readHeader [block 1]).cycle = 5 ∧ (5 + 256 - 1 % 256) % 256 = 4 ∧ (5 + 256 - 2 % 256) % 256 = 3
    ∧ (readHeader [block 1]).network = 1 ∧ (readHeader [block 2]).network = 2 ∧ (readHeader [tooHigh]).level = 4
    ∧ fresh.tariff.inForce = none
    ∧ (∀ d ∈ [registered, { registered with vehicle := { registered.vehicle with calendar := ⟨none, false⟩ } },
          timed ⟨0, 43198, 9⟩ registered, timed ⟨1, 0, 0⟩ { hired with channel := registered.channel },
          timed ⟨1, 0, 0⟩ { replacing with channel := registered.channel }],
        Reaches d (block 1) ∧ d.link.notices.length ≤ 8 ∧ d.channel.reg = .registered)
    ∧ (readHeader [block 1]).second = 43200 ∧ (readHeader [block 1]).day = 0 :=
  holds (haveI := decReaches; inferInstance) (by decide +kernel)

/-- The message in flight has failed `n` times. -/
def failing (n : Nat) (m : Msg) (d : Device) : Device :=
  let e := queuing [{ entry m 1 with seq := some 2, state := .inFlight, attempts := n }, { entry (.noshow 7) 2 with state := .backoff 1 }] d
  { e with uplink := { e.uplink with inFlight := some ⟨1, .ackWait 3⟩, nextSeq := 3 } }
/-- A header that grants the cab slot 2. -/
def granting : List Byte := blockOf 1 5 1 0 0 [0, 5, 2, 1]

theorem witness_HeadersReachTheQueue :
    (∀ d ∈ [flying (.noshow 3) (.ackWait 4), flying (.text 0 [65]) (.grantWait 0), flying (.text 0 [65]) (.grantWait 1),
        flying (.text 0 [65]) (.granted 2 0), failing 4 (.noshow 3) registered, failing 5 (.noshow 3) registered,
        failing 5 (.shiftRecord 1) (storing [{ kept 1 with mark := .inFlight }] 2 registered), buffering (some (half 30)) none,
        waitingLogon 1 .handed], Reaches d (block 1) ∧ Reaches d (block 2) ∧ Reaches d granting)
    ∧ (usableHeader (readHeader [granting])).grants = [⟨5, 2, 1⟩] ∧ (usableHeader (readHeader [block 1])).acks = [⟨5, 2⟩]
    ∧ registered.channel.network = some 1 :=
  holds (haveI := decReaches; inferInstance) (by decide +kernel)

/-- The message in flight is acknowledged by the next header, or fails for the sixth time there. -/
def ending (acked : Bool) (m : Msg) (d : Device) : Device :=
  let e := failing 5 m d
  { e with uplink := { e.uplink with inFlight := some ⟨1, .ackWait (if acked then 4 else 3)⟩ } }
/-- A bid under way. -/
def bidSent : Device := offering [{ offerOne with state := .bidding false none }]
/-- A reply under way. -/
def replied : Device := mailing [{ letter with state := .replied, receipt := .delivered, reply := some (1, .queued) }] registered
/-- A receipt under way. -/
def receipted : Device := mailing [{ letter with state := .read, receipt := .queued }] registered

theorem witness_MessagesTellTheirOwners :
    (∀ b ∈ [true, false], ∀ d ∈ [ending b (.noshow 3) registered, ending b .status (booked (.pending 12) registered),
        ending b (.bid 9) bidSent, ending b (.shiftRecord 1) (storing [{ kept 1 with mark := .inFlight }] 2 registered),
        ending b (.cannedReply 20 1) replied, ending b (.readReceipt 20) receipted,
        ending b (.readReceipt 20) (mailing [letter] registered)],
        Reaches d (block 1) ∧ d.channel.reg = .registered ∧ d.channel.network = some 1
          ∧ (d.uplink.entries.find? fun e => e.serial == 1).isSome = true ∧ d.link.notices.length ≤ 14)
    ∧ recordMsg (kept 1) = .shiftRecord 1 ∧ (Msg.cannedReply 20 1).answers = some 20
    ∧ (usableHeader (readHeader [block 1])).acks = [⟨5, 2⟩] ∧ (usableHeader (readHeader [block 1])).cycle = 5
    ∧ (usableHeader (readHeader [block 1])).level = 1 :=
  holds (haveI := decReaches; inferInstance) (by decide +kernel)

/-- A track in the lane. -/
def tracked : Device := let d := calling .acknowledged true registered
  { d with uplink := { d.uplink with lane := .track ⟨7, 4, none⟩ } }

theorem witness_UplinkPhaseMakesThePlan :
    (∀ d ∈ [registered, tracked, waitingLogon 7 .backoffDue, full registered,
        { full registered with items := { registered.items with arbitration := .rotating } },
        queuing [{ entry (.noshow 3) 1 with state := .backoffDue }] registered, buffering (some { half 30 with headers := 8 }) none],
        Lawful d ∧ d.uplink.plan = none ∧ d.channel.view = some ⟨header, true, some 5⟩
          ∧ d.link.accepting = true)
    ∧ (planned none registered).uplink.plan ≠ none ∧ forHire.channel.view = none ∧ (warned registered).link.accepting = false :=
  holds (haveI := decLawful; inferInstance) (by decide +kernel)

/-- The call is being withdrawn, with this many CANCEL blocks sent. -/
def withdrawing (n : Nat) : Device := let d := planned none (calling .cancelling true registered)
  { d with emergency := { d.emergency with cancelSent := n } }

theorem witness_LaneTakesItsSlots :
    (∀ d ∈ [sending, withdrawing 8, withdrawing 9, planned none registered, registered, warned sending,
        planned none (calling .raised false (flying (.text 0 [65]) (.granted 2 0)))], Lawful d)
    ∧ sending.uplink.lane = .emergency ∧ (withdrawing 9).uplink.lane = .cancel ∧ (withdrawing 9).emergency.cancelSent = 9
    ∧ (sending.uplink.plan.map Plan.slotZero).getD false = true ∧ sending.channel.view.isSome = true
    ∧ (run (.slotGranted 2) sending).radio.map Sent.slot = [2] ∧ sending.radio = [] :=
  holds (haveI := decLawful; inferInstance) (by decide +kernel)

theorem witness_SlotsCarryTheirBlocks :
    (∀ d ∈ [planned (some (8, .track)) tracked, planned (some (8, .logon)) (waitingLogon 1 .handed),
        planned (some (8, .entry 1)) (queuing [entry (.noshow 3) 1] registered),
        planned (some (8, .entry 1)) (queuing [entry (.text 0 (List.replicate 17 65)) 1] registered), planned none registered,
        planned none (flying (.text 0 (List.replicate 17 65)) (.granted 2 0)),
        planned none (flying (.text 0 (List.replicate 17 65)) (.granted 2 1))],
        Lawful d ∧ d.channel.view = some ⟨header, true, some 5⟩ ∧ d.link.accepting = true ∧ d.uplink.plan.isSome = true ∧ d.radio = [])
    ∧ (planned (some (8, .track)) tracked).link.accepting = true
    ∧ (((planned none registered).uplink.plan.map Plan.polls).getD []).contains 5 = true
    ∧ forHire.channel.view.isSome = false :=
  holds (haveI := decLawful; inferInstance) (by decide +kernel)


end Sys2Proof.Tests
end

section
/-! The Fare Meter's requests (01): how a request taken at once is answered, said once for every owner, and ADD_EXTRA (R12). -/

namespace Sys2Proof.Machine

open Sys2Proof

/-! ### A request taken at once -/

/-- The rule for a request of any kind: what its owner answers and leaves, with the request in hand, is what the part
answers and leaves (R191 to R193). -/
theorem onDevice_request_of_owner {kind tag : Byte} {body : List Byte} {owner : List Byte → Device → Answer × Device}
    {a : Answer} {s : State} {e : Device} (hready : LinkReady s.dev) (htag : tag ≠ 0)
    (howner : ownerOf kind.toNat = some owner)
    (hanswer : owner body (takeInHand ⟨kind, tag, body⟩ [] s.dev)
      = (a, { e with link := (takeInHand ⟨kind, tag, body⟩ [] s.dev).link })) :
    onDevice (request kind tag body) s = .next { s with
      dev := { refresh e with link := s.dev.link.answering (makeReply ⟨kind, tag, body⟩ a) } } := by
  have hjudge : judgeFrame ⟨kind, tag, body⟩ (takeInHand ⟨kind, tag, body⟩ [] s.dev)
      = (a, { e with link := (takeInHand ⟨kind, tag, body⟩ [] s.dev).link }) := by
    simp only [judgeFrame, if_neg htag, howner, hanswer]
  have hlink : (takeInHand ⟨kind, tag, body⟩ [] s.dev).link.answering (makeReply ⟨kind, tag, body⟩ a)
      = s.dev.link.answering (makeReply ⟨kind, tag, body⟩ a) := by
    obtain ⟨-, -, -, hinput⟩ := hready
    unfold takeInHand Link.answering
    rw [← hinput]
  rw [onDevice_request kind tag body hready, takeFrame, hjudge]
  simp only
  rw [finish_reply _ _ rfl, refresh_with_link, hlink]

/-- A refused request leaves the part as it was but for the reply (R192): its sign was true and stays so. -/
theorem onDevice_request_of_refuse {kind tag : Byte} {body : List Byte} {owner : List Byte → Device → Answer × Device}
    {r : Result} {s : State} (hready : LinkReady s.dev) (htrue : SignTrue s.dev) (htag : tag ≠ 0)
    (howner : ownerOf kind.toNat = some owner)
    (hrefuse : owner body (takeInHand ⟨kind, tag, body⟩ [] s.dev) = refuse r (takeInHand ⟨kind, tag, body⟩ [] s.dev)) :
    onDevice (request kind tag body) s = .next { s with
      dev := { s.dev with link := s.dev.link.answering (refusal kind tag r) } } := by
  have h := onDevice_request_of_owner (e := s.dev) hready htag howner hrefuse
  rwa [refresh_of_true htrue] at h

/-! ### ADD_EXTRA (R12) -/

/-- The command is the request of kind 07h. -/
theorem exec_addExtra (tag : Byte) (body : List Byte) (s : State) :
    exec (.addExtra tag body) s = onDevice (request 0x07 tag body) s := rfl

/-- The one byte of a body of one byte. -/
@[simp] theorem byteAt_singleton (i : Byte) : byteAt [i] 0 = i.toNat := by
  simp [byteAt, field, readBytes]

/-- ADD_EXTRA with one byte, in HIRED and in STOPPED, is judged on the trip held. -/
theorem askAddExtra_of_trip {i : Byte} {t : Trip} {d : Device}
    (hstate : d.meter.state = .hired ∨ d.meter.state = .stopped) (htrip : d.meter.trip = some t) :
    askAddExtra [i] d = extraOn t [i] d := by
  rcases hstate with h | h <;> simp [askAddExtra, h, htrip, withLength]

/-- The supplements in force are those of the set in force. -/
theorem supplementInForce_eq {set : TariffSet} {d : Device} (h : d.tariff.inForce = some set) (i : Nat) :
    supplementInForce i d = place set.supplements i := by
  rw [supplementInForce, h, Option.bind_some]

/-- An index past the 8 places is refused. -/
theorem extraOn_of_index_past {i : Byte} {t : Trip} {d : Device} (h : 7 < i.toNat) :
    extraOn t [i] d = refuse .outOfRange d := by
  simp [extraOn, h]

/-- An empty place of the set in force is refused. -/
theorem extraOn_of_none {i : Byte} {t : Trip} {d : Device} (h : i.toNat ≤ 7) (hplace : supplementInForce i.toNat d = none) :
    extraOn t [i] d = refuse .notFound d := by
  simp [extraOn, Nat.not_lt.mpr h, hplace]

/-- A supplement of the set in force is added to the trip, and the reply tells the new extras. -/
theorem extraOn_of_some {i : Byte} {t : Trip} {p : Supplement} {d : Device} (h : i.toNat ≤ 7)
    (hplace : supplementInForce i.toNat d = some p) :
    extraOn t [i] d = okWith (.extras (addExtra p.amount t).extras) (onTrip (addExtra p.amount) d) := by
  simp [extraOn, Nat.not_lt.mpr h, hplace]

/-- The extras go up by the amount and no further than 99,999; a sum past that sets EXTRAS_CAPPED, which nothing here
clears. -/
theorem addExtra_eq (amount : Nat) (t : Trip) :
    addExtra amount t = { t with
      extras := min 99999 (t.extras + amount)
      flags := { t.flags with extrasCapped := t.flags.extrasCapped || decide (99999 < t.extras + amount) } } := by
  unfold addExtra Config.extrasTop
  split
  case isTrue hover => simp [hover, Nat.min_eq_left hover.le]
  case isFalse hfits => simp [hfits, Nat.min_eq_right (Nat.not_lt.mp hfits)]

/-- With a trip held, a change of the trip touches nothing else. -/
theorem onTrip_of_some {f : Trip → Trip} {t : Trip} {d : Device} (h : d.meter.trip = some t) :
    onTrip f d = { d with meter := { d.meter with trip := some (f t) } } := by
  rw [onTrip, h, Option.map_some]

/-- Settles O24: the owner's three outcomes, each carried through the link by the rule for a request taken at once. -/
theorem extrasAreAdded : Obligations.ExtrasAreAdded := by
  unfold Obligations.ExtrasAreAdded Reads Answered
  intro s tag i hready htrue htag hstate t htrip set hset
  rw [exec_addExtra]
  have hask : askAddExtra [i] (takeInHand ⟨0x07, tag, [i]⟩ [] s.dev) = extraOn t [i] (takeInHand ⟨0x07, tag, [i]⟩ [] s.dev) :=
    askAddExtra_of_trip hstate htrip
  have hplace : supplementInForce i.toNat (takeInHand ⟨0x07, tag, [i]⟩ [] s.dev) = place set.supplements i.toNat :=
    supplementInForce_eq hset i.toNat
  refine ⟨fun hpast => ?outOfRange, fun hi hnone => ?notFound, fun hi p hp => ?added⟩
  case outOfRange =>
    exact onDevice_request_of_refuse hready htrue htag rfl (hask.trans (extraOn_of_index_past hpast))
  case notFound =>
    exact onDevice_request_of_refuse hready htrue htag rfl (hask.trans (extraOn_of_none hi (hplace.trans hnone)))
  case added =>
    have hadded := hask.trans (extraOn_of_some hi (hplace.trans hp))
    rw [onDevice_request_of_owner (e := onTrip (addExtra p.amount) s.dev) hready htag rfl hadded,
      onTrip_of_some htrip, addExtra_eq]
    rfl

end Sys2Proof.Machine
end

section
/-! The distances that the third law compares (02; R37 to R39): one scope each for the lifetime and for the open shift,
what the law reads of the Tariff Store and of the Fare Meter, and the invariant that every event keeps. -/

namespace Sys2Proof.Machine

open Sys2Proof

/-! ### One scope of distances -/

/-- The distances of one scope, the lifetime or the shift: total and hired metres with their residues (R37). -/
structure Distances where
  total : Nat
  totalResidue : Nat
  hired : Nat
  hiredResidue : Nat

/-- The third law in one scope. -/
def Distances.Ordered (k : Nat) (x : Distances) : Prop := ScopeLaw k x.total x.totalResidue x.hired x.hiredResidue

/-- The total metres take `p` edges (R37). -/
def Distances.takeTotal (k p : Nat) (x : Distances) : Distances :=
  let (m, r) := advance k p Config.count32Top x.total x.totalResidue
  { x with total := m, totalResidue := r }

/-- The hired metres take `p` edges (R37). -/
def Distances.takeHired (k p : Nat) (x : Distances) : Distances :=
  let (m, r) := advance k p Config.count32Top x.hired x.hiredResidue
  { x with hired := m, hiredResidue := r }

/-- A conversion loses no edge: the whole metres and the new residue make up the old residue and the edges (R37). -/
theorem advance_exact {k : Nat} (hk : 0 < k) (p top total residue : Nat) :
    ∃ q r, advance k p top total residue = (min top (total + q), r) ∧ q * k + r = residue + p * 1000 ∧ r < k :=
  ⟨_, _, rfl, Nat.div_add_mod' _ k, Nat.mod_lt _ hk⟩

/-- The total after a conversion, the hired metres untouched. -/
theorem Distances.takeTotal_exact {k : Nat} (hk : 0 < k) (p : Nat) (x : Distances) :
    ∃ q r, x.takeTotal k p = { x with total := min Config.count32Top (x.total + q), totalResidue := r }
      ∧ q * k + r = x.totalResidue + p * 1000 ∧ r < k :=
  advance_exact hk p Config.count32Top x.total x.totalResidue |>.imp fun _ => .imp fun _ h => by
    simp [Distances.takeTotal, h]

/-- The hired metres after a conversion, the total untouched. -/
theorem Distances.takeHired_exact {k : Nat} (hk : 0 < k) (p : Nat) (x : Distances) :
    ∃ q r, x.takeHired k p = { x with hired := min Config.count32Top (x.hired + q), hiredResidue := r }
      ∧ q * k + r = x.hiredResidue + p * 1000 ∧ r < k :=
  advance_exact hk p Config.count32Top x.hired x.hiredResidue |>.imp fun _ => .imp fun _ h => by
    simp [Distances.takeHired, h]

/-- A distance in order has a calibration constant that divides. -/
theorem Distances.Ordered.pos {k : Nat} {x : Distances} (h : x.Ordered k) : 0 < k := by
  obtain ⟨htotal, -⟩ := h
  omega

/-- Edges that count for the total alone keep the order. -/
theorem Distances.Ordered.takeTotal {k : Nat} {x : Distances} (p : Nat) (h : x.Ordered k) :
    (x.takeTotal k p).Ordered k := by
  obtain ⟨q, r, htake, hsum, hr⟩ := Distances.takeTotal_exact h.pos p x
  obtain ⟨-, hhired, hle, htop, hexact⟩ := h
  rw [htake]
  refine ⟨hr, hhired, le_min (hle.trans htop) (hle.trans (Nat.le_add_right _ _)), min_le_left _ _, fun hlt => ?_⟩
  dsimp only at hlt ⊢
  have := hexact (by omega)
  rw [min_eq_right (by omega), Nat.add_mul]
  omega

/-- Edges that count for both keep the order: below the top the exact distances move on alike, and at the top the total
is the largest value there is. -/
theorem Distances.Ordered.takeBoth {k : Nat} {x : Distances} (p : Nat) (h : x.Ordered k) :
    ((x.takeTotal k p).takeHired k p).Ordered k := by
  obtain ⟨q, r, htake, hsum, hr⟩ := Distances.takeTotal_exact h.pos p x
  obtain ⟨q', r', htake', hsum', hr'⟩ := Distances.takeHired_exact h.pos p (x.takeTotal k p)
  obtain ⟨-, -, hle, htop, hexact⟩ := h
  rw [htake', htake]
  simp only [htake] at hsum'
  have hexact' (hlt : x.total + q < Config.count32Top) : (x.hired + q') * k + r' ≤ (x.total + q) * k + r := by
    have := hexact (by omega)
    simp only [Nat.add_mul]
    omega
  have hmetres (hlt : x.total + q < Config.count32Top) : x.hired + q' ≤ x.total + q := by
    refine Nat.lt_succ_iff.mp (Nat.lt_of_mul_lt_mul_right (a := k) ?_)
    rw [Nat.succ_mul]
    exact lt_of_le_of_lt (Nat.le_of_add_right_le (hexact' hlt)) (Nat.add_lt_add_left hr _)
  refine ⟨hr, hr', ?_, min_le_left _ _, fun hlt => ?_⟩ <;> dsimp only at *
  · omega
  · have := hmetres (by omega)
    rw [min_eq_right (by omega), min_eq_right (by omega)]
    exact hexact' (by omega)

/-- Distances in order stay so with both residues gone, at any calibration constant: what a commit and a lost backed
storage leave (R38, R66). -/
theorem Distances.ordered_of_no_residue {k total hired : Nat} (hk : 0 < k) (hle : hired ≤ total)
    (htop : total ≤ Config.count32Top) : (Distances.mk total 0 hired 0).Ordered k :=
  ⟨hk, hk, hle, htop, fun _ => by simpa using Nat.mul_le_mul_right k hle⟩

/-! ### What the law reads -/

/-- The lifetime distances, with their residues. -/
def TariffStore.distances (t : TariffStore) : Distances :=
  ⟨t.lifetime.totalMetres, t.totalResidue, t.lifetime.hiredMetres, t.hiredResidue⟩

/-- The shift distances, with their residues. -/
def Shift.distances (s : Shift) : Distances := ⟨s.totalMetres, s.totalResidue, s.hiredMetres, s.hiredResidue⟩

/-- What the law reads of the Tariff Store. -/
structure TariffGauge where
  inForce : Option TariffSet
  load : Option Staging
  lifetime : Distances

/-- What the law reads of the Fare Meter. -/
structure MeterGauge where
  state : MeterState
  shift : Option Distances

/-- What the law reads of this Tariff Store. -/
def TariffStore.gauge (t : TariffStore) : TariffGauge := ⟨t.inForce, t.load, t.distances⟩

/-- What the law reads of this Fare Meter. -/
def Meter.gauge (m : Meter) : MeterGauge := ⟨m.state, m.shift.map Shift.distances⟩

/-- The third law, with what the meter state, the load and the calibration constants must be for every event to keep it:
a shift is open only under a set in force, a load stands only while none is open, and a staged constant divides. -/
structure MetresLaw (t : TariffGauge) (m : MeterGauge) : Prop where
  le : t.lifetime.hired ≤ t.lifetime.total
  top : t.lifetime.total ≤ Config.count32Top
  unset : t.inForce = none → t.lifetime.totalResidue = 0 ∧ t.lifetime.hiredResidue = 0
  lifetime : ∀ set ∈ t.inForce, t.lifetime.Ordered set.k
  shift : ∀ set ∈ t.inForce, ∀ x ∈ m.shift, x.Ordered set.k
  calibrated : m.state = .uncalibrated ↔ t.inForce = none
  shiftOpen : m.shift.isSome = m.state.shiftOpen
  loading : t.load.isSome → m.state = .uncalibrated ∨ m.state = .offDuty
  staged : ∀ s ∈ t.load, ∀ k ∈ s.k, 0 < k

/-- The invariant of a part. -/
def MetresKept (d : Device) : Prop := MetresLaw d.tariff.gauge d.meter.gauge

/-- A lawful part has the invariant. -/
theorem Lawful.metresKept {d : Device} (h : Lawful d) : MetresKept d := by
  obtain ⟨hle, htop, hunset, hordered⟩ := h.distance
  obtain ⟨hcalibrated, hopen, -, hloading, -⟩ := h.meter
  obtain ⟨-, -, -, -, -, hload, -⟩ := h.tariff
  refine ⟨hle, htop, hunset, fun set hset => (hordered set hset).1, fun set hset x hx => ?shift, hcalibrated, ?opened,
    hloading, fun s hs k hk => ?staged⟩
  case shift =>
    obtain ⟨s, hs, rfl⟩ := Option.map_eq_some_iff.mp hx
    exact (hordered set hset).2 s hs
  case opened => simpa [Meter.gauge] using hopen
  case staged =>
    obtain ⟨⟨hconstant, -⟩, -⟩ := hload s hs
    exact lt_of_lt_of_le (by decide) (hconstant k hk).1

/-- An open shift has a set in force, since UNCALIBRATED has no shift (01, Meter states). -/
theorem MetresKept.inForce_of_shift {d : Device} (h : MetresKept d) {x : Shift} (hx : x ∈ d.meter.shift) :
    ∃ set, d.tariff.inForce = some set := by
  refine Option.ne_none_iff_exists'.mp fun hnone => ?_
  have hstate := h.calibrated.mpr hnone
  have hopen := h.shiftOpen
  rw [hstate] at hopen
  simp [Meter.gauge, Option.mem_def.mp hx, MeterState.shiftOpen] at hopen

/-- The invariant gives the third law. -/
theorem MetresKept.distanceLaw {d : Device} (h : MetresKept d) : DistanceLaw d :=
  ⟨h.le, h.top, h.unset, fun set hset => ⟨h.lifetime set hset, fun s hs =>
    h.shift set hset s.distances (Option.mem_map_of_mem Shift.distances hs)⟩⟩

/-- The third law over the open shift. -/
theorem MetresKept.shift_le {d : Device} (h : MetresKept d) : ∀ x ∈ d.meter.shift, x.hiredMetres ≤ x.totalMetres := by
  intro x hx
  obtain ⟨set, hset⟩ := h.inForce_of_shift hx
  obtain ⟨-, -, hle, -⟩ := h.shift set hset x.distances (Option.mem_map_of_mem Shift.distances hx)
  exact hle

/-- In UNCALIBRATED and in OFF_DUTY no shift is open. -/
theorem MetresLaw.no_shift {t : TariffGauge} {m : MeterGauge} (h : MetresLaw t m)
    (hstate : m.state = .uncalibrated ∨ m.state = .offDuty) : m.shift = none := by
  have hopen := h.shiftOpen
  rw [← Option.not_isSome_iff_eq_none, hopen]
  rcases hstate with hstate | hstate <;> simp [hstate, MeterState.shiftOpen]

end Sys2Proof.Machine
end

section
/-! What leaves the distances alone: the operations that change neither the set in force, nor the load, nor a distance, nor
the meter state, nor which shift is open. -/

namespace Sys2Proof.Machine

open Sys2Proof

/-- The second part reads on every gauge of the third law as the first. -/
abbrev SameGauges (d e : Device) : Prop := e.tariff.gauge = d.tariff.gauge ∧ e.meter.gauge = d.meter.gauge

@[simp] theorem sameGauges_iff (d e : Device) :
    SameGauges d e ↔ e.tariff.gauge = d.tariff.gauge ∧ e.meter.gauge = d.meter.gauge := Iff.rfl

/-- The invariant passes to a part with the same gauges. -/
theorem MetresKept.of_same {d e : Device} (h : MetresKept d) (hsame : SameGauges d e) : MetresKept e := by
  unfold MetresKept
  rwa [hsame.1, hsame.2]

/-! ### The meter and the trip -/

@[simp] theorem onTrip_gauge (f : Trip → Trip) (d : Device) : (onTrip f d).meter.gauge = d.meter.gauge := rfl
@[simp] theorem setReplaced_gauge (n : Option Nat) (d : Device) : (setReplaced n d).meter.gauge = d.meter.gauge := rfl
@[simp] theorem windowTick_gauge (d : Device) : (windowTick d).meter.gauge = d.meter.gauge := rfl

/-- The shift takes a change of its distances. -/
theorem onShift_gauge {f : Shift → Shift} {g : Distances → Distances} (h : ∀ s, (f s).distances = g s.distances)
    (d : Device) : (onShift f d).meter.gauge = { d.meter.gauge with shift := d.meter.gauge.shift.map g } := by
  simp [onShift, Meter.gauge, Function.comp_def, h]

/-- A change of the other shift totals is none of the distances. -/
theorem onShift_gauge_same {f : Shift → Shift} (h : ∀ s, (f s).distances = s.distances) (d : Device) :
    (onShift f d).meter.gauge = d.meter.gauge := by
  simp [onShift_gauge (g := id) h]

/-- A change of the other lifetime totals is none of the distances. -/
theorem onLifetime_gauge_same {f : Lifetime → Lifetime} (htotal : ∀ l, (f l).totalMetres = l.totalMetres)
    (hhired : ∀ l, (f l).hiredMetres = l.hiredMetres) (d : Device) :
    (onLifetime f d).tariff.gauge = d.tariff.gauge := by
  simp [onLifetime, TariffStore.gauge, TariffStore.distances, htotal, hhired]

/-- A change of meter state. -/
@[simp] theorem meterTo_gauge (m : MeterState) (d : Device) :
    (meterTo m d).meter.gauge = { d.meter.gauge with state := m } := by
  unfold meterTo
  simp only [askStatus_meter]
  split <;> split <;> simp [Meter.gauge]

@[simp] theorem evaluate_same (d : Device) : SameGauges d (evaluate d) := by
  rw [SameGauges, evaluate_meter]
  unfold evaluate
  split <;> simp [TariffStore.gauge, TariffStore.distances, handResult_meter, Meter.gauge]

@[simp] theorem accrueTrip_gauge (p : Nat) (d : Device) : (accrueTrip p d).meter.gauge = d.meter.gauge := by
  unfold accrueTrip
  split
  · split <;> rfl
  · rfl

@[simp] theorem flagSensorFault_gauge (d : Device) : (flagSensorFault d).meter.gauge = d.meter.gauge := by
  unfold flagSensorFault; split <;> simp

@[simp] theorem flagImplausible_gauge (d : Device) : (flagImplausible d).meter.gauge = d.meter.gauge := by
  unfold flagImplausible; split <;> simp

@[simp] theorem flagJobCancelled_gauge (d : Device) : (flagJobCancelled d).meter.gauge = d.meter.gauge := by
  simp [flagJobCancelled]

@[simp] theorem takeJobCancel_gauge (j : Nat) (d : Device) : (takeJobCancel j d).meter.gauge = d.meter.gauge := by
  unfold takeJobCancel
  split
  · split
    · split <;> simp
    · rfl
  · rfl

/-! ### The Trip Store -/

@[simp] theorem loseRecord_gauge (d : Device) : (loseRecord d).tariff.gauge = d.tariff.gauge :=
  onLifetime_gauge_same (fun _ => rfl) (fun _ => rfl) d

@[simp] theorem displace_gauge (d : Device) : (displace d).tariff.gauge = d.tariff.gauge := by
  unfold displace
  split
  · rfl
  · dsimp only; split <;> simp

@[simp] theorem makeRoom_gauge (d : Device) : (makeRoom d).tariff.gauge = d.tariff.gauge := by
  unfold makeRoom
  split
  · simp
  · split <;> simp

/-! ### Vehicle Inputs -/

@[simp] theorem raiseFault_gauge (d : Device) : (raiseFault d).meter.gauge = d.meter.gauge := by simp [raiseFault]

@[simp] theorem countPhaseError_gauge (d : Device) : (countPhaseError d).meter.gauge = d.meter.gauge := by
  unfold countPhaseError; dsimp only; split <;> simp

@[simp] theorem countChange_gauge (c : Change) (d : Device) : (countChange c d).meter.gauge = d.meter.gauge := by
  unfold countChange
  split
  · rfl
  · split <;> simp

@[simp] theorem wheelChange_gauge (a b : Bool) (d : Device) : (wheelChange a b d).meter.gauge = d.meter.gauge := by
  unfold wheelChange; split <;> simp

@[simp] theorem closeEdges_gauge (d : Device) : (closeEdges d).2.meter.gauge = d.meter.gauge := by
  unfold closeEdges implausibleTick; dsimp only; split <;> simp

@[simp] theorem unmeteredEvent_gauge (d : Device) : (unmeteredEvent d).meter.gauge = d.meter.gauge := by
  simp only [unmeteredEvent, notify_meter, askUnmetered_meter]
  rw [onShift_gauge_same]
  exact fun _ => rfl

@[simp] theorem occupancyTick_gauge (p : Nat) (d : Device) : (occupancyTick p d).meter.gauge = d.meter.gauge := by
  unfold occupancyTick
  split
  · dsimp only; split <;> simp
  · rfl

@[simp] theorem changeSensorMode_same (m : SensorMode) (d : Device) : SameGauges d (changeSensorMode m d) := by
  unfold changeSensorMode; dsimp only; split <;> simp

@[simp] theorem nextDay_same (day : Nat) (d : Device) : SameGauges d (nextDay day d) := by
  unfold nextDay; split <;> simp

@[simp] theorem nextSecond_same (t : ClockTime) (d : Device) : SameGauges d (nextSecond t d) := by
  unfold nextSecond
  split
  · simp
  · dsimp only; split <;> simp

@[simp] theorem clockTick_same (d : Device) : SameGauges d (clockTick d) := by
  unfold clockTick
  split
  · simp
  · split <;> simp

@[simp] theorem clockHeader_same (r : Reading) (b : Bool) (d : Device) : SameGauges d (clockHeader r b d) := by
  unfold clockHeader
  split
  · simp
  · dsimp only; split <;> split <;> simp

/-! ### The Emergency Controller -/

@[simp] theorem newCall_gauge (b : Bool) (d : Device) : (newCall b d).meter.gauge = d.meter.gauge := by
  simp only [newCall, notifyIf_meter]
  rw [onShift_gauge_same]
  · simp
  · exact fun _ => rfl

@[simp] theorem panicRaised_gauge (d : Device) : (panicRaised d).meter.gauge = d.meter.gauge := by
  unfold panicRaised; split <;> simp

@[simp] theorem samplePanic_gauge (b : Bool) (d : Device) : (samplePanic b d).meter.gauge = d.meter.gauge := by
  unfold samplePanic
  dsimp only
  split
  · simp
  · split
    · simp
    · split <;> simp

end Sys2Proof.Machine
end

section
/-! The radio side leaves the distances alone: registration, the Uplink Queue, the plan and the slots. -/

namespace Sys2Proof.Machine

open Sys2Proof

/-! ### The orders of the base and the identity -/

@[simp] theorem takeIdentity_same (d : Device) : SameGauges d (takeIdentity d) := by
  simp only [takeIdentity]
  split <;> simp

@[simp] theorem resetChannel_same (d : Device) : SameGauges d (resetChannel d) := by
  simp only [resetChannel]
  split <;> simp

/-! ### The registration and its headers -/

@[simp] theorem judgeSearching_same (h : Header) (d : Device) : SameGauges d (judgeSearching h d) := by
  simp only [judgeSearching]
  split
  · simp
  · split <;> simp

@[simp] theorem judgeLost_same (h : Header) (d : Device) : SameGauges d (judgeLost h d) := by
  simp only [judgeLost]
  repeat' split
  all_goals simp

@[simp] theorem attemptFailed_same (l : Logon) (d : Device) : SameGauges d (attemptFailed l d) := by
  simp only [attemptFailed, draw]
  split <;> simp

@[simp] theorem judgeAttempt_same (h : Header) (d : Device) : SameGauges d (judgeAttempt h d) := by
  simp only [judgeAttempt]
  repeat' split
  all_goals simp

@[simp] theorem judgeOwn_same (h : Header) (d : Device) : SameGauges d (judgeOwn h d) := by
  simp only [judgeOwn]
  repeat' split
  all_goals simp

@[simp] theorem judgeHeader_same (h : Header) (d : Device) : SameGauges d (judgeHeader h d) := by
  simp only [judgeHeader]
  split <;> simp

/-! ### The Uplink Queue -/

@[simp] theorem settleUnmetered_same (b : Bool) (d : Device) : SameGauges d (settleUnmetered b d) := by
  simp only [settleUnmetered]
  split <;> simp

@[simp] theorem ownerDelivered_same (e : Entry) (d : Device) : SameGauges d (ownerDelivered e d) := by
  simp only [ownerDelivered]
  split <;> simp

@[simp] theorem ownerFailed_same (e : Entry) (d : Device) : SameGauges d (ownerFailed e d) := by
  simp only [ownerFailed]
  split <;> simp

@[simp] theorem delivered_same (e : Entry) (d : Device) : SameGauges d (delivered e d) := by
  simp [delivered]

@[simp] theorem messageFailed_same (e : Entry) (d : Device) : SameGauges d (messageFailed e d) := by
  simp only [messageFailed]
  split <;> simp

@[simp] theorem attemptEnds_same (e : Entry) (d : Device) : SameGauges d (attemptEnds e d) := by
  simp only [attemptEnds, draw]
  split <;> simp

@[simp] theorem judgeGrantWait_same (h : Header) (e : Entry) (n : Nat) (d : Device) :
    SameGauges d (judgeGrantWait h e n d) := by
  simp only [judgeGrantWait]
  repeat' split
  all_goals simp

@[simp] theorem judgeAckWait_same (h : Header) (e : Entry) (n : Nat) (d : Device) :
    SameGauges d (judgeAckWait h e n d) := by
  simp only [judgeAckWait]
  split <;> simp

@[simp] theorem judgeFlight_same (h : Header) (d : Device) : SameGauges d (judgeFlight h d) := by
  simp only [judgeFlight]
  repeat' split
  all_goals simp

@[simp] theorem uplinkHeader_same (h : Header) (d : Device) : SameGauges d (uplinkHeader h d) := by
  simp [uplinkHeader]

@[simp] theorem headerTaken_same (h : Header) (d : Device) : SameGauges d (headerTaken h d) := by
  simp only [headerTaken]
  repeat' split
  all_goals simp

@[simp] theorem headerBlock_same (b : List Byte) (d : Device) : SameGauges d (headerBlock b d) := by
  simp only [headerBlock]
  repeat' split
  all_goals simp

@[simp] theorem startCycle_same (d : Device) : SameGauges d (startCycle d) := by
  simp only [startCycle]
  split <;> simp

/-! ### The plan of the cycle -/

@[simp] theorem movePointer_same (n : Nat) (d : Device) : SameGauges d (movePointer n d) := by
  simp only [movePointer]
  split <;> simp

@[simp] theorem contentionUse_same (d : Device) : SameGauges d (contentionUse d).2 := by
  simp only [contentionUse]
  repeat' split
  all_goals simp

@[simp] theorem drawContention_same (h : Header) (d : Device) : SameGauges d (drawContention h d).2 := by
  have huse := contentionUse_same d
  simp only [drawContention, draw]
  split
  · simp
  · split <;> simp_all

@[simp] theorem makePlan_same (d : Device) : SameGauges d (makePlan d) := by
  simp only [makePlan]
  split <;> simp

/-! ### The slots -/

@[simp] theorem sendEmergency_same (n : Nat) (d : Device) : SameGauges d (sendEmergency n d) := by
  simp [sendEmergency]

@[simp] theorem sendCancel_same (n : Nat) (d : Device) : SameGauges d (sendCancel n d) := by
  simp [sendCancel]

@[simp] theorem slotZero_same (d : Device) : SameGauges d (slotZero d) := by
  simp only [slotZero]
  repeat' split
  all_goals simp

@[simp] theorem stealSlot_same (n : Nat) (d : Device) : SameGauges d (stealSlot n d) := by
  simp only [stealSlot]
  split <;> simp

@[simp] theorem sendGranted_same (n first sent : Nat) (e : Entry) (d : Device) :
    SameGauges d (sendGranted n first sent e d) := by
  simp only [sendGranted]
  repeat' split
  all_goals simp

@[simp] theorem slotGranted_same (n : Nat) (d : Device) : SameGauges d (slotGranted n d) := by
  simp only [slotGranted]
  repeat' split
  all_goals simp

@[simp] theorem satisfyStatus_same (d : Device) : SameGauges d (satisfyStatus d) := by
  simp only [satisfyStatus]
  repeat' split
  all_goals simp

@[simp] theorem answerPoll_same (n : Nat) (d : Device) : SameGauges d (answerPoll n d) := by
  simp [answerPoll]

@[simp] theorem slotPolled_same (n : Nat) (d : Device) : SameGauges d (slotPolled n d) := by
  simp only [slotPolled]
  repeat' split
  all_goals simp

@[simp] theorem sendTrack_same (n : Nat) (d : Device) : SameGauges d (sendTrack n d) := by
  simp only [sendTrack]
  repeat' split
  all_goals simp

@[simp] theorem sendLogon_same (n : Nat) (d : Device) : SameGauges d (sendLogon n d) := by
  simp only [sendLogon]
  repeat' split
  all_goals simp

@[simp] theorem giveSeq_same (e : Entry) (d : Device) : SameGauges d (giveSeq e d).2 := by
  simp only [giveSeq]
  split <;> simp

@[simp] theorem sendSingle_same (n : Nat) (e : Entry) (d : Device) : SameGauges d (sendSingle n e d) := by
  simp [sendSingle]

@[simp] theorem sendRequest_same (n : Nat) (e : Entry) (d : Device) : SameGauges d (sendRequest n e d) := by
  simp [sendRequest]

@[simp] theorem sendEntry_same (n serial : Nat) (d : Device) : SameGauges d (sendEntry n serial d) := by
  simp only [sendEntry]
  repeat' split
  all_goals simp

@[simp] theorem slotContention_same (d : Device) : SameGauges d (slotContention d) := by
  simp only [slotContention]
  repeat' split
  all_goals simp

end Sys2Proof.Machine
end

section
/-! The requests of the host that leave the distances alone, each by its owner's rule. -/

namespace Sys2Proof.Machine

open Sys2Proof

@[simp] theorem okWith_snd (data : ReplyData) (d : Device) : (okWith data d).2 = d := rfl
@[simp] theorem ok_snd (d : Device) : (ok d).2 = d := rfl
@[simp] theorem already_snd (data : ReplyData) (d : Device) : (already data d).2 = d := rfl
@[simp] theorem refuse_snd (r : Result) (d : Device) : (refuse r d).2 = d := rfl

/-- What the queue leaves when it is asked for a message. -/
theorem sameGauges_of_ask {m : Msg} {d e : Device} {a : Asked} (h : ask m d = (a, e)) : SameGauges d e := by
  obtain rfl : (ask m d).2 = e := by rw [h]
  simp

/-- A body of the length its kind allows goes to the owner; any other changes nothing (R191). -/
theorem withLength_snd (n : Nat) (body : List Byte) (d : Device) (f : Answer × Device) :
    (withLength n body d f).2 = f.2 ∨ (withLength n body d f).2 = d := by
  unfold withLength
  split <;> simp

theorem withLength_same {d : Device} {f : Answer × Device} (h : SameGauges d f.2) (n : Nat) (body : List Byte) :
    SameGauges d (withLength n body d f).2 := by
  rcases withLength_snd n body d f with hsnd | hsnd <;> simp [hsnd, h]

theorem MetresKept.withLength {d : Device} (h : MetresKept d) {f : Answer × Device} (hf : MetresKept f.2) (n : Nat)
    (body : List Byte) : MetresKept (withLength n body d f).2 := by
  rcases withLength_snd n body d f with hsnd | hsnd <;> rwa [hsnd]

/-! ### Fare Meter -/

@[simp] theorem extraOn_same (t : Trip) (body : List Byte) (d : Device) : SameGauges d (extraOn t body d).2 := by
  simp only [extraOn]
  split
  · simp
  · split <;> simp

@[simp] theorem askAddExtra_same (body : List Byte) (d : Device) : SameGauges d (askAddExtra body d).2 := by
  unfold askAddExtra
  split
  · exact withLength_same (by simp) _ _
  · exact withLength_same (by simp) _ _
  · simp

@[simp] theorem askMeterRead_same (body : List Byte) (d : Device) : SameGauges d (askMeterRead body d).2 :=
  withLength_same (by simp) _ _

@[simp] theorem askTotalsRead_same (body : List Byte) (d : Device) : SameGauges d (askTotalsRead body d).2 :=
  withLength_same (by simp) _ _

/-! ### Tariff Store, clock and position -/

@[simp] theorem tariffRead_same (source selector index : Nat) (d : Device) :
    SameGauges d (tariffRead source selector index d).2 := by
  simp only [tariffRead]
  repeat' split
  all_goals simp

@[simp] theorem askTariffRead_same (body : List Byte) (d : Device) : SameGauges d (askTariffRead body d).2 :=
  withLength_same (by simp) _ _

@[simp] theorem askClockSet_same (body : List Byte) (d : Device) : SameGauges d (askClockSet body d).2 := by
  simp only [askClockSet, clockAnswer]
  repeat' split
  all_goals simp

@[simp] theorem takePosition_same (q : Option Quality) (body : List Byte) (d : Device) :
    SameGauges d (takePosition q body d).2 := by
  simp only [takePosition]
  split
  · simp
  · split <;> simp

@[simp] theorem askPosition_same (body : List Byte) (d : Device) : SameGauges d (askPosition body d).2 := by
  unfold askPosition
  split
  · simp
  · split
    · simp
    · exact withLength_same (by simp) _ _

/-! ### Channel Controller, Offer Table -/

@[simp] theorem askRescan_same (body : List Byte) (d : Device) : SameGauges d (askRescan body d).2 := by
  unfold askRescan
  split
  · simp
  · exact withLength_same (by simp) _ _

@[simp] theorem bidFor_same (job : Nat) (d : Device) : SameGauges d (bidFor job d).2 := by
  simp only [bidFor]
  split
  · simp [sameGauges_of_ask ‹_›]
  · simp

@[simp] theorem acceptJob_same (job : Nat) (d : Device) : SameGauges d (acceptJob job d).2 := by
  simp only [acceptJob]
  split
  · simp
  · split <;> simp

@[simp] theorem askAccept_same (body : List Byte) (d : Device) : SameGauges d (askAccept body d).2 := by
  refine withLength_same ?_ _ _
  split <;> simp

@[simp] theorem declineEntry_same (o : Offer) (d : Device) : SameGauges d (declineEntry o d).2 := by
  simp only [declineEntry]
  split <;> simp

@[simp] theorem declineJob_same (job : Nat) (d : Device) : SameGauges d (declineJob job d).2 := by
  simp only [declineJob]
  split
  · simp
  · split <;> simp

@[simp] theorem askDecline_same (body : List Byte) (d : Device) : SameGauges d (askDecline body d).2 := by
  refine withLength_same ?_ _ _
  split <;> simp

@[simp] theorem noshowJob_same (job : Nat) (d : Device) : SameGauges d (noshowJob job d).2 := by
  simp only [noshowJob]
  split
  · simp
  · split
    · simp
    · split
      · simp [sameGauges_of_ask ‹_›]
      · simp

@[simp] theorem askNoshow_same (body : List Byte) (d : Device) : SameGauges d (askNoshow body d).2 := by
  refine withLength_same ?_ _ _
  split <;> simp

@[simp] theorem listJob_same (job : Nat) (d : Device) : SameGauges d (listJob job d).2 := by
  simp only [listJob]
  split
  · simp
  · split <;> simp

@[simp] theorem askOfferList_same (body : List Byte) (d : Device) : SameGauges d (askOfferList body d).2 := by
  refine withLength_same ?_ _ _
  split <;> simp

@[simp] theorem bookZone_same (zone : Nat) (d : Device) : SameGauges d (bookZone zone d).2 := by
  simp only [bookZone]
  split <;> simp

@[simp] theorem askBook_same (body : List Byte) (d : Device) : SameGauges d (askBook body d).2 := by
  refine withLength_same ?_ _ _
  repeat' split
  all_goals simp

@[simp] theorem askUnbook_same (body : List Byte) (d : Device) : SameGauges d (askUnbook body d).2 := by
  refine withLength_same ?_ _ _
  split <;> simp

/-! ### Mailbox -/

@[simp] theorem askMailList_same (body : List Byte) (d : Device) : SameGauges d (askMailList body d).2 :=
  withLength_same (by simp) _ _

@[simp] theorem oweReceipt_same (n : Nat) (d : Device) : SameGauges d (oweReceipt n d) := by
  simp only [oweReceipt]
  split <;> simp [sameGauges_of_ask ‹_›]

@[simp] theorem readMail_same (m : Mail) (d : Device) : SameGauges d (readMail m d) := by
  simp only [readMail]
  repeat' split
  all_goals simp

@[simp] theorem askMailRead_same (body : List Byte) (d : Device) : SameGauges d (askMailRead body d).2 := by
  refine withLength_same ?_ _ _
  split <;> simp

@[simp] theorem replyTo_same (m : Mail) (code : Nat) (d : Device) : SameGauges d (replyTo m code d).2 := by
  simp only [replyTo]
  split
  · simp
  · split
    · simp
    · split
      · simp [sameGauges_of_ask ‹_›]
      · simp

@[simp] theorem askMailReply_same (body : List Byte) (d : Device) : SameGauges d (askMailReply body d).2 := by
  refine withLength_same ?_ _ _
  split <;> simp

@[simp] theorem askMailDelete_same (body : List Byte) (d : Device) : SameGauges d (askMailDelete body d).2 := by
  refine withLength_same ?_ _ _
  repeat' split
  all_goals simp

@[simp] theorem askSendText_same (body : List Byte) (d : Device) : SameGauges d (askSendText body d).2 := by
  simp only [askSendText]
  split
  · simp
  · split
    · simp
    · split
      · simp [sameGauges_of_ask ‹_›]
      · simp

/-! ### Emergency Controller -/

@[simp] theorem askRaise_same (body : List Byte) (d : Device) : SameGauges d (askRaise body d).2 := by
  refine withLength_same ?_ _ _
  split <;> simp

@[simp] theorem askCancel_same (body : List Byte) (d : Device) : SameGauges d (askCancel body d).2 := by
  unfold askCancel
  split
  · simp
  · exact withLength_same (by simp) _ _
  · simp
  · split
    · simp
    · refine withLength_same ?_ _ _
      split <;> simp

/-! ### Sign and Display -/

@[simp] theorem askSignLoad_same (body : List Byte) (d : Device) : SameGauges d (askSignLoad body d).2 := by
  simp only [askSignLoad]
  repeat' split
  all_goals simp

@[simp] theorem setBlank_same (b : Bool) (d : Device) : SameGauges d (setBlank b d).2 := by
  simp [setBlank]

@[simp] theorem askSignBlank_same (body : List Byte) (d : Device) : SameGauges d (askSignBlank body d).2 := by
  refine withLength_same ?_ _ _
  split <;> simp

@[simp] theorem askSignRead_same (body : List Byte) (d : Device) : SameGauges d (askSignRead body d).2 :=
  withLength_same (by simp) _ _

/-! ### Host Link -/

@[simp] theorem askStatusRead_same (body : List Byte) (d : Device) : SameGauges d (askStatusRead body d).2 :=
  withLength_same (by simp) _ _

@[simp] theorem askGetConfig_same (body : List Byte) (d : Device) : SameGauges d (askGetConfig body d).2 := by
  refine withLength_same ?_ _ _
  repeat' split
  all_goals simp

@[simp] theorem askIdentify_same (body : List Byte) (d : Device) : SameGauges d (askIdentify body d).2 :=
  withLength_same (by simp) _ _

@[simp] theorem configArbitration_same (value : List Byte) (d : Device) : SameGauges d (configArbitration value d).2 := by
  refine withLength_same ?_ _ _
  split <;> simp

@[simp] theorem configCovert_same (value : List Byte) (d : Device) : SameGauges d (configCovert value d).2 := by
  refine withLength_same ?_ _ _
  split <;> simp

@[simp] theorem configTrack_same (value : List Byte) (d : Device) : SameGauges d (configTrack value d).2 :=
  withLength_same (by simp) _ _

@[simp] theorem configAcceptance_same (value : List Byte) (d : Device) : SameGauges d (configAcceptance value d).2 := by
  simp only [configAcceptance]
  split <;> simp

@[simp] theorem configSensor_same (value : List Byte) (d : Device) : SameGauges d (configSensor value d).2 := by
  refine withLength_same ?_ _ _
  repeat' split
  all_goals simp

@[simp] theorem changeOccupancyCheck_same (b : Bool) (d : Device) : SameGauges d (changeOccupancyCheck b d) := by
  simp only [changeOccupancyCheck]
  split <;> simp

@[simp] theorem configOccupancy_same (value : List Byte) (d : Device) : SameGauges d (configOccupancy value d).2 := by
  refine withLength_same ?_ _ _
  split <;> simp

@[simp] theorem configPolarity_same (value : List Byte) (d : Device) : SameGauges d (configPolarity value d).2 := by
  refine withLength_same ?_ _ _
  split <;> simp

@[simp] theorem askSetConfig_same (body : List Byte) (d : Device) : SameGauges d (askSetConfig body d).2 := by
  simp only [askSetConfig]
  split <;> simp

end Sys2Proof.Machine
end

section
/-! What moves the distances or changes what they stand under: the meter's tick, a shift opened or closed, a trip, a load, a
commit, and the supply. Each keeps the invariant. -/

namespace Sys2Proof.Machine

open Sys2Proof

/-! ### The changes, on the gauges -/

section

variable {t : TariffGauge} {m : MeterGauge}

/-- A meter state other than UNCALIBRATED has a set in force. -/
theorem MetresLaw.inForce (h : MetresLaw t m) (hstate : m.state ≠ .uncalibrated) : ∃ set, t.inForce = some set :=
  Option.ne_none_iff_exists'.mp (mt h.calibrated.mpr hstate)

/-- While a shift is open no load stands. -/
theorem MetresLaw.no_load (h : MetresLaw t m) (hopen : m.state.shiftOpen = true) : t.load = none := by
  refine Option.not_isSome_iff_eq_none.mp fun hload => ?_
  rcases h.loading hload with hstate | hstate <;> simp [hstate, MeterState.shiftOpen] at hopen

/-- The lifetime takes the edges of a tick, for the total or for both. -/
theorem MetresLaw.takeLifetime (h : MetresLaw t m) {set : TariffSet} (hset : t.inForce = some set) {x : Distances}
    (hx : x.Ordered set.k) : MetresLaw { t with lifetime := x } m := by
  obtain ⟨-, -, hle, htop, -⟩ := id hx
  refine ⟨hle, htop, fun hnone => ?_, fun set' hset' => ?_, h.shift, h.calibrated, h.shiftOpen, h.loading, h.staged⟩
  · simp [hset] at hnone
  · obtain rfl : set = set' := by simpa [hset] using hset'
    exact hx

/-- The open shift takes the edges of a tick, for the total or for both. -/
theorem MetresLaw.takeShift (h : MetresLaw t m) {set : TariffSet} (hset : t.inForce = some set) {g : Distances → Distances}
    (hg : ∀ x : Distances, x.Ordered set.k → (g x).Ordered set.k) : MetresLaw t { m with shift := m.shift.map g } := by
  refine ⟨h.le, h.top, h.unset, h.lifetime, fun set' hset' x hx => ?_, h.calibrated, ?_, h.loading, h.staged⟩
  · obtain rfl : set = set' := by simpa [hset] using hset'
    obtain ⟨y, hy, rfl⟩ := Option.map_eq_some_iff.mp hx
    exact hg y (h.shift set hset y hy)
  · simpa using h.shiftOpen

/-- The meter goes from one state of an open shift to another. -/
theorem MetresLaw.stayOpen (h : MetresLaw t m) {st : MeterState} (hopen : m.state.shiftOpen = true)
    (hst : st.shiftOpen = true) : MetresLaw t { m with state := st } := by
  have hstate : ∀ {a : MeterState}, a.shiftOpen = true → a ≠ .uncalibrated := by rintro _ ha rfl; cases ha
  obtain ⟨set, hset⟩ := h.inForce (hstate hopen)
  refine ⟨h.le, h.top, h.unset, h.lifetime, h.shift, ?_, ?_, fun hload => ?_, h.staged⟩
  · simp [hset, hstate hst]
  · rw [h.shiftOpen, hopen, hst]
  · simp [h.no_load hopen] at hload

/-- A shift is opened in OFF_DUTY with no load standing (R3). -/
theorem MetresLaw.openShift (h : MetresLaw t m) (hstate : m.state = .offDuty) (hload : t.load = none) :
    MetresLaw t ⟨.forHire, some ⟨0, 0, 0, 0⟩⟩ := by
  obtain ⟨set, hset⟩ := h.inForce (by simp [hstate])
  refine ⟨h.le, h.top, h.unset, h.lifetime, fun set' hset' x hx => ?_, ?_, rfl, ?_, h.staged⟩
  · obtain rfl : ⟨0, 0, 0, 0⟩ = x := by simpa using hx
    exact Distances.ordered_of_no_residue (h.lifetime set' hset').pos le_rfl (Nat.zero_le _)
  · simp [hset]
  · simp [hload]

/-- The open shift is closed (R16). -/
theorem MetresLaw.closeShift (h : MetresLaw t m) (hstate : m.state ≠ .uncalibrated) : MetresLaw t ⟨.offDuty, none⟩ := by
  obtain ⟨set, hset⟩ := h.inForce hstate
  refine ⟨h.le, h.top, h.unset, h.lifetime, ?_, ?_, rfl, fun _ => .inr rfl, h.staged⟩
  · simp
  · simp [hset]

/-- A load is begun or changed where one may stand (R60, R63), or ends. -/
theorem MetresLaw.setLoad (h : MetresLaw t m) {load : Option Staging}
    (hstate : load.isSome → m.state = .uncalibrated ∨ m.state = .offDuty) (hk : ∀ s ∈ load, ∀ k ∈ s.k, 0 < k) :
    MetresLaw { t with load } m :=
  ⟨h.le, h.top, h.unset, h.lifetime, h.shift, h.calibrated, h.shiftOpen, hstate, hk⟩

/-- A load is abandoned (R61, R67). -/
theorem MetresLaw.dropLoad (h : MetresLaw t m) : MetresLaw { t with load := none } m :=
  h.setLoad (by simp) (by simp)

/-- A load is committed: with no shift open, the new constant meets the lifetime distances without their residues (R66). -/
theorem MetresLaw.commit (h : MetresLaw t m) (hload : t.load.isSome = true) {set : TariffSet} (hk : 0 < set.k) :
    MetresLaw ⟨some set, none, { t.lifetime with totalResidue := 0, hiredResidue := 0 }⟩ { m with state := .offDuty } := by
  have hshift := h.no_shift (h.loading hload)
  refine ⟨h.le, h.top, by simp, fun set' hset' => ?_, ?_, by simp, by simp [hshift, MeterState.shiftOpen], by simp, by simp⟩
  · obtain rfl : set = set' := by simpa using hset'
    exact Distances.ordered_of_no_residue hk h.le h.top
  · simp [hshift]

end

/-! ### The tick -/

theorem lifetimeTotal_gauge (p : Nat) (d : Device) : (lifetimeTotal p d).tariff.gauge
    = { d.tariff.gauge with lifetime := d.tariff.gauge.lifetime.takeTotal (kInForce d) p } := rfl

theorem lifetimeHired_gauge (p : Nat) (d : Device) : (lifetimeHired p d).tariff.gauge
    = { d.tariff.gauge with lifetime := d.tariff.gauge.lifetime.takeHired (kInForce d) p } := rfl

theorem shiftTotal_gauge (k p : Nat) (d : Device) : (onShift (shiftTotal k p) d).meter.gauge
    = { d.meter.gauge with shift := d.meter.gauge.shift.map (Distances.takeTotal k p) } :=
  onShift_gauge (fun _ => rfl) d

theorem shiftBoth_gauge (k p : Nat) (d : Device) : (onShift (fun s => shiftHired k p (shiftTotal k p s)) d).meter.gauge
    = { d.meter.gauge with shift := d.meter.gauge.shift.map fun x => (x.takeTotal k p).takeHired k p } :=
  onShift_gauge (fun _ => rfl) d

theorem kInForce_of_some {d : Device} {set : TariffSet} (h : d.tariff.inForce = some set) : kInForce d = set.k := by
  simp [kInForce, h]

/-- The edges of a tick count for the totals in every state with a set in force, and for the hired metres, after the
totals, in HIRED (R7, R37). -/
theorem MetresKept.meterTick {d : Device} (h : MetresKept d) (p : Nat) : MetresKept (meterTick p d) := by
  by_cases huncalibrated : d.meter.state = .uncalibrated
  · simpa [Machine.meterTick, huncalibrated] using h
  obtain ⟨set, hset⟩ : ∃ set, d.tariff.inForce = some set := MetresLaw.inForce h huncalibrated
  have hk := kInForce_of_some hset
  have hlifetime := MetresLaw.lifetime h set hset
  have htotal := MetresLaw.takeLifetime h hset (hlifetime.takeTotal p)
  have hshift := MetresLaw.takeShift htotal hset fun _ hx => hx.takeTotal p
  unfold MetresKept Machine.meterTick
  rcases hstate : d.meter.state with _ | _ | _ | _ | _
  case uncalibrated => exact absurd hstate huncalibrated
  case offDuty => simpa [lifetimeTotal_gauge, hk] using htotal
  case forHire => simpa [lifetimeTotal_gauge, shiftTotal_gauge, hk] using hshift
  case stopped => simpa [lifetimeTotal_gauge, shiftTotal_gauge, hk] using hshift
  case hired =>
    have hk' : kInForce (lifetimeTotal p d) = set.k := hk
    have hboth := MetresLaw.takeShift (MetresLaw.takeLifetime h hset (hlifetime.takeBoth p)) hset fun _ hx => hx.takeBoth p
    simpa [lifetimeTotal_gauge, lifetimeHired_gauge, shiftBoth_gauge, hk, hk'] using hboth

/-- No load stands after LOCKED (R61). -/
theorem abortLoad_gauge (d : Device) : (abortLoad d).tariff.gauge = { d.tariff.gauge with load := none } := by
  unfold abortLoad
  split
  case isTrue => simp [TariffStore.gauge, TariffStore.distances]
  case isFalse hnone => simpa [TariffStore.gauge] using hnone

/-- A change to OPEN is counted. -/
theorem countOpening_gauge (d : Device) :
    (onLifetime (fun l => { l with switchOpenings := satAdd Config.count16Top l.switchOpenings 1 }) d).tariff.gauge
      = d.tariff.gauge :=
  onLifetime_gauge_same (fun _ => rfl) (fun _ => rfl) d

/-- The switch changes nothing but that LOCKED ends a load (R59, R61). -/
theorem MetresKept.sampleSwitch {d : Device} (h : MetresKept d) (b : Bool) : MetresKept (sampleSwitch b d) := by
  unfold Machine.sampleSwitch switchTo
  dsimp only
  split
  · exact h
  · split
    · exact h
    · split
      · refine h.of_same ⟨(countOpening_gauge _).trans ?_, ?_⟩
        all_goals simp [TariffStore.gauge, TariffStore.distances]
      · unfold MetresKept
        rw [abortLoad_gauge]
        simpa [TariffStore.gauge, TariffStore.distances] using MetresLaw.dropLoad h

/-- Work that is left out when it has been taken before. -/
theorem MetresKept.unlessTaken {d : Device} (h : MetresKept d) {f : Device → Device} (hf : MetresKept (f d)) (taken : Bool) :
    MetresKept (unlessTaken taken f d) := by
  unfold Machine.unlessTaken
  split
  · exact h
  · exact hf

@[simp] theorem timersTick_same (d : Device) : SameGauges d (timersTick d) := by
  unfold timersTick Machine.unlessTaken
  dsimp only
  split <;> split <;> simp

theorem MetresKept.samplesTick {d : Device} (h : MetresKept d) : MetresKept (samplesTick d) := by
  have hpanic : MetresKept (Machine.unlessTaken d.ahead.panic (samplePanic d.pins.panic) d) :=
    h.unlessTaken (h.of_same (by simp)) _
  have hoccupancy := hpanic.unlessTaken (f := sampleOccupancy d.pins.occupied) (hpanic.of_same (by simp)) d.ahead.occupancy
  exact hoccupancy.unlessTaken (hoccupancy.sampleSwitch d.pins.switchOpen) d.ahead.switch

/-- The work of a tick in its order (R43). -/
theorem MetresKept.tickWork {d : Device} (h : MetresKept d) : MetresKept (tickWork d) := by
  have hedges : MetresKept (closeEdges d).2 := h.of_same (by simp)
  have hmeter := hedges.meterTick (closeEdges d).1
  have hclock := hmeter.unlessTaken (f := clockTick) (hmeter.of_same (by simp)) d.ahead.clock
  have htimers : MetresKept (timersTick (Machine.unlessTaken d.ahead.clock clockTick
      (Machine.meterTick (closeEdges d).1 (closeEdges d).2))) := hclock.of_same (by simp)
  exact htimers.samplesTick.of_same (e := Machine.tickWork d) ⟨rfl, rfl⟩

/-- The end of an event. -/
theorem MetresKept.finish {d : Device} (h : MetresKept d) : MetresKept (finish d) := h.of_same (by simp)

theorem MetresKept.tick {d : Device} (h : MetresKept d) (panic occupied switchOpen : Bool) :
    MetresKept (tick panic occupied switchOpen d) := by
  have hsampled : MetresKept (setSamples panic occupied switchOpen d) := h
  unfold Machine.tick
  dsimp only
  split
  · exact hsampled
  · exact MetresKept.finish hsampled.tickWork

/-- A share of a tick taken ahead of it (log 8). -/
theorem MetresKept.takeWhen {d : Device} (h : MetresKept d) {due : Device → Bool} {f : Device → Device}
    (hf : MetresKept (f d)) : MetresKept (takeWhen due f d) := by
  unfold Machine.takeWhen
  split
  · exact hf.finish
  · exact h

/-! ### The requests of the Fare Meter -/

@[simp] theorem gauge_withTrip (m : Meter) (trip : Option Trip) (window : Nat) :
    Meter.gauge ⟨m.state, trip, m.shift, m.lastShift, window, m.replaced⟩ = m.gauge := rfl

theorem openShift_gauge (d : Device) : (openShift d).meter.gauge = ⟨.forHire, some ⟨0, 0, 0, 0⟩⟩ := by
  simp only [openShift, refresh_meter, meterTo_gauge]
  rfl

theorem startTrip_gauge (n : Nat) (t : Tariff) (d : Device) :
    (startTrip n t d).tariff.gauge = d.tariff.gauge
      ∧ (startTrip n t d).meter.gauge = { d.meter.gauge with state := .hired } := by
  unfold startTrip
  dsimp only
  split <;> simp

theorem stopTrip_gauge (d : Device) : (stopTrip d).meter.gauge = { d.meter.gauge with state := .stopped } := by
  simp [stopTrip]

theorem resumeTrip_gauge (d : Device) : (resumeTrip d).meter.gauge = { d.meter.gauge with state := .hired } := by
  simp [resumeTrip]

/-- A finished trip adds to the other lifetime totals. -/
@[simp] theorem lifetimeTakesTrip_gauge (t : Trip) (d : Device) :
    (onLifetime (lifetimeTakesTrip t) d).tariff.gauge = d.tariff.gauge :=
  onLifetime_gauge_same (fun _ => rfl) (fun _ => rfl) d

/-- A finished trip adds to the other shift totals. -/
@[simp] theorem shiftTakesTrip_gauge (t : Trip) (d : Device) :
    (onShift (shiftTakesTrip t) d).meter.gauge = d.meter.gauge :=
  onShift_gauge_same (f := shiftTakesTrip t) (fun _ => rfl) d

theorem clearTrip_gauge (t : Trip) (d : Device) :
    (clearTrip t d).2.tariff.gauge = d.tariff.gauge
      ∧ (clearTrip t d).2.meter.gauge = { d.meter.gauge with state := .forHire } := by
  simp [clearTrip]

theorem closeShift_gauge (s : Shift) (d : Device) :
    (closeShift s d).2.tariff.gauge = d.tariff.gauge ∧ (closeShift s d).2.meter.gauge = ⟨.offDuty, none⟩ := by
  simp only [closeShift, refresh_tariff, refresh_meter, meterTo_tariff, meterTo_gauge]
  simp [Meter.gauge]

/-- A part whose meter has gone from one state of an open shift to another. -/
theorem MetresKept.stayOpen {d e : Device} (h : MetresKept d) {st : MeterState} (htariff : e.tariff.gauge = d.tariff.gauge)
    (hmeter : e.meter.gauge = { d.meter.gauge with state := st }) (hopen : d.meter.state.shiftOpen = true)
    (hst : st.shiftOpen = true) : MetresKept e := by
  unfold MetresKept
  rw [htariff, hmeter]
  exact MetresLaw.stayOpen h hopen hst

theorem MetresKept.askShiftOpen {d : Device} (h : MetresKept d) (body : List Byte) :
    MetresKept (askShiftOpen body d).2 := by
  unfold Machine.askShiftOpen
  split
  case isTrue => exact h
  case isFalse hfree =>
    obtain ⟨hstate, hload⟩ : d.meter.state = .offDuty ∧ d.tariff.load = none := by simpa using hfree
    refine h.withLength ?_ _ _
    simpa [MetresKept, openShift_gauge] using MetresLaw.openShift h hstate hload

theorem MetresKept.askHire {d : Device} (h : MetresKept d) (body : List Byte) : MetresKept (askHire body d).2 := by
  unfold Machine.askHire
  split
  case h_2 => exact h
  case h_1 hstate _ =>
    have hhired (n : Nat) (t : Tariff) : MetresKept (startTrip n t d) := by
      obtain ⟨htariff, hmeter⟩ := startTrip_gauge n t d
      exact h.stayOpen htariff hmeter (by rw [hstate]; rfl) rfl
    refine h.withLength ?_ _ _
    unfold hireUnder
    split
    · exact h
    · split
      · exact hhired _ _
      · exact h

theorem MetresKept.askStop {d : Device} (h : MetresKept d) (body : List Byte) : MetresKept (askStop body d).2 := by
  unfold Machine.askStop
  split
  case h_2 => exact h
  case h_1 hstate _ =>
    exact h.withLength (h.stayOpen (e := stopTrip d) (by simp) (stopTrip_gauge d) (by rw [hstate]; rfl) rfl) _ _

theorem MetresKept.askResume {d : Device} (h : MetresKept d) (body : List Byte) : MetresKept (askResume body d).2 := by
  unfold Machine.askResume
  split
  case isTrue => exact h
  case isFalse hstate =>
    have hresumed : MetresKept (resumeTrip d) :=
      h.stayOpen (by simp) (resumeTrip_gauge d) (by rw [not_not.mp hstate]; rfl) rfl
    split
    · exact h
    · exact h.withLength hresumed _ _

theorem MetresKept.askClear {d : Device} (h : MetresKept d) (body : List Byte) : MetresKept (askClear body d).2 := by
  unfold Machine.askClear
  split
  case h_2 => exact h
  case h_1 t hstate _ =>
    obtain ⟨htariff, hmeter⟩ := clearTrip_gauge t d
    exact h.withLength (h.stayOpen (e := (clearTrip t d).2) htariff hmeter (by rw [hstate]; rfl) rfl) _ _

theorem MetresKept.askShiftClose {d : Device} (h : MetresKept d) (body : List Byte) :
    MetresKept (askShiftClose body d).2 := by
  unfold Machine.askShiftClose
  split
  case h_2 => exact h
  case h_1 s hstate _ =>
    obtain ⟨htariff, hmeter⟩ := closeShift_gauge s d
    refine h.withLength ?_ _ _
    simpa [MetresKept, htariff, hmeter] using MetresLaw.closeShift h (by simp [Meter.gauge, hstate])

/-! ### The requests of the Tariff Store -/

/-- A load that is begun holds the constant in force, if any (R60). -/
theorem MetresKept.askTariffBegin {d : Device} (h : MetresKept d) (body : List Byte) :
    MetresKept (askTariffBegin body d).2 := by
  have hstaged : ∀ k ∈ (beginStaging d).k, 0 < k := by
    unfold beginStaging
    split
    case h_1 set hset =>
      rintro k ⟨⟩
      exact (MetresLaw.lifetime h set hset).pos
    case h_2 => simp [emptyStaging]
  unfold Machine.askTariffBegin
  split
  · exact h
  · split
    case isTrue => exact h
    case isFalse hstate =>
      have hidle : d.meter.state = .uncalibrated ∨ d.meter.state = .offDuty := by
        by_contra hno
        exact hstate (not_or.mp hno)
      have hbegun : MetresKept (setLoad (some (beginStaging d)) d) :=
        MetresLaw.setLoad h (load := some (beginStaging d)) (fun _ => hidle) (by simpa using hstaged)
      split
      · exact h
      · exact h.withLength hbegun _ _

/-- What an item does to the calibration constant: SET calibration stages one of 1000 or more, every other item leaves it
(R63). -/
theorem itemOperation_k {item op n : Nat} {fields : List Byte} {change : Staging → Except Result Staging} {s s' : Staging}
    (hitem : itemOperation item op fields = some (n, change)) (h : change s = .ok s') :
    s'.k = s.k ∨ ∃ k, 1000 ≤ k ∧ s'.k = some k := by
  unfold itemOperation at hitem
  split at hitem
  all_goals cases hitem
  case h_1 =>
    unfold setCalibration at h
    dsimp only at h
    split at h
    · cases h
      exact .inr ⟨_, by omega, rfl⟩
    · cases h
  all_goals
    left
    simp only [setTariff, removeTariff, setDefault, addBand, removeBand, clearSchedule, setSupplement, removeSupplement,
      setDecimals, setIdentity] at h
    repeat' split at h
    all_goals
      cases h
      try rfl

/-- An item that is taken stages a constant of 1000 or more, or leaves the one staged (R62, R63). -/
theorem applyItem_k {s s' : Staging} {body : List Byte} (h : applyItem s body = .ok s') :
    s'.k = s.k ∨ ∃ k, 1000 ≤ k ∧ s'.k = some k := by
  unfold applyItem at h
  split at h
  case h_1 => cases h
  case h_2 n change hitem =>
    split at h
    case isTrue => exact itemOperation_k hitem h
    case isFalse => cases h

theorem MetresKept.askTariffItem {d : Device} (h : MetresKept d) (body : List Byte) :
    MetresKept (askTariffItem body d).2 := by
  unfold Machine.askTariffItem
  split
  case h_1 => exact h
  case h_2 s hload =>
    have hstate := MetresLaw.loading h (by simp [TariffStore.gauge, hload])
    split
    case h_2 => exact h
    case h_1 s' happly =>
      refine MetresLaw.setLoad h (load := some s') (fun _ => hstate) ?_
      rintro _ ⟨⟩ k hk
      rcases applyItem_k happly with hsame | ⟨k', hpos, hk'⟩
      · exact MetresLaw.staged h s hload k (hsame ▸ hk)
      · rw [hk'] at hk
        cases hk
        omega

/-- The set that passes the checks has the staged constant (R65). -/
theorem checkSet_k {s : Staging} {set : TariffSet} (h : checkSet s = .ok set) : s.k = some set.k := by
  unfold checkSet at h
  split at h
  case h_4 k _ _ hk _ _ =>
    repeat' split at h
    all_goals cases h
    exact hk
  all_goals cases h

/-- The part a completed commit leaves (R66): it goes from UNCALIBRATED or OFF_DUTY to OFF_DUTY. -/
theorem installSet_gauge (set : TariffSet) (d : Device) (hstate : d.meter.state = .uncalibrated ∨ d.meter.state = .offDuty) :
    (installSet set d).tariff.gauge
        = ⟨some set, none, { d.tariff.gauge.lifetime with totalResidue := 0, hiredResidue := 0 }⟩
      ∧ (installSet set d).meter.gauge = { d.meter.gauge with state := .offDuty } := by
  simp only [installSet, evaluate_same, takeIdentity_same]
  split
  case isTrue =>
    simp only [meterTo_tariff, meterTo_gauge]
    exact ⟨rfl, trivial⟩
  case isFalse hcalibrated =>
    have hoff : d.meter.state = .offDuty := hstate.resolve_left hcalibrated
    exact ⟨rfl, by simp [Meter.gauge, hoff]⟩

theorem MetresKept.askTariffCommit {d : Device} (h : MetresKept d) (body : List Byte) :
    MetresKept (askTariffCommit body d).2 := by
  unfold Machine.askTariffCommit
  split
  case h_1 => exact h
  case h_2 s hload =>
    have hloading : d.tariff.gauge.load.isSome = true := by simp [TariffStore.gauge, hload]
    refine h.withLength ?_ _ _
    split
    case h_1 => exact h
    case h_2 set hcheck =>
      obtain ⟨htariff, hmeter⟩ := installSet_gauge set d (MetresLaw.loading h hloading)
      have hk : 0 < set.k := MetresLaw.staged h s hload set.k (checkSet_k hcheck)
      simpa [MetresKept, htariff, hmeter] using MetresLaw.commit h hloading hk

theorem MetresKept.askTariffAbandon {d : Device} (h : MetresKept d) (body : List Byte) :
    MetresKept (askTariffAbandon body d).2 := by
  unfold Machine.askTariffAbandon
  split
  · exact h
  · exact h.withLength (f := ok (setLoad none d)) (MetresLaw.dropLoad h) _ _

/-! ### A host RESET -/

/-- A RESET empties every block that the law does not read, and ends a load (R199). -/
theorem resetAll_gauge (d : Device) :
    (resetAll d).tariff.gauge = { d.tariff.gauge with load := none } ∧ (resetAll d).meter.gauge = d.meter.gauge := by
  simp only [resetAll, sendRecord_tariff, sendRecord_meter, refreshSign_tariff, refreshSign_meter, makeAccounting_tariff,
    makeAccounting_meter, resetChannel_same]
  exact ⟨rfl, rfl⟩

theorem MetresKept.askReset {d : Device} (h : MetresKept d) (body : List Byte) : MetresKept (askReset body d).2 := by
  unfold Machine.askReset
  split
  · obtain ⟨htariff, hmeter⟩ := resetAll_gauge (resetLink d)
    refine h.withLength ?_ _ _
    simpa [MetresKept, htariff, hmeter] using MetresLaw.dropLoad h
  · exact h

/-! ### The link -/

/-- Every owner keeps the invariant. -/
theorem MetresKept.owner {d : Device} (h : MetresKept d) {kind : Nat} {owner : List Byte → Device → Answer × Device}
    (howner : ownerOf kind = some owner) (body : List Byte) : MetresKept (owner body d).2 := by
  unfold ownerOf at howner
  split at howner
  all_goals cases howner
  case h_1 => exact h.askShiftOpen body
  case h_2 => exact h.askHire body
  case h_3 => exact h.askStop body
  case h_4 => exact h.askResume body
  case h_5 => exact h.askClear body
  case h_6 => exact h.askShiftClose body
  case h_10 => exact h.askTariffBegin body
  case h_11 => exact h.askTariffItem body
  case h_12 => exact h.askTariffCommit body
  case h_13 => exact h.askTariffAbandon body
  case h_38 => exact h.askReset body
  all_goals exact h.of_same (by simp)

theorem MetresKept.takeFrame {d : Device} (h : MetresKept d) (f : Frame) (rest : List Frame) :
    MetresKept (takeFrame f rest d) := by
  have hhand : MetresKept (takeInHand f rest d) := h
  have hjudge : MetresKept (judgeFrame f (takeInHand f rest d)).2 := by
    unfold judgeFrame
    split
    · exact hhand
    · split
      case h_1 => exact hhand
      case h_2 owner howner => exact hhand.owner howner f.body
  exact hjudge.of_same (by simp [Machine.takeFrame])

theorem MetresKept.serve {d : Device} (h : MetresKept d) : MetresKept (serve d) := by
  unfold Machine.serve
  split
  · split
    · exact h.takeFrame _ _
    · exact h
  · exact h

theorem MetresKept.offerFrame {d : Device} (h : MetresKept d) (f : Frame) : MetresKept (offerFrame f d) := by
  unfold Machine.offerFrame
  split
  · exact MetresKept.serve (d := { d with link := _ }) h
  · exact h

theorem MetresKept.request {d : Device} (h : MetresKept d) (kind tag : Byte) (body : List Byte) :
    MetresKept (request kind tag body d) := by
  unfold Machine.request
  split
  · exact h
  · exact h.offerFrame _

theorem MetresKept.frameByte {d : Device} (h : MetresKept d) (bytes : List Byte) : MetresKept (frameByte bytes d) := by
  unfold Machine.frameByte frameComplete
  split
  · exact h
  · split
    · split
      · exact MetresKept.offerFrame (d := setRx .hunting d) h _
      · exact h
    · exact h

theorem MetresKept.lineByte {d : Device} (h : MetresKept d) (b : Byte) : MetresKept (lineByte b d) := by
  unfold Machine.lineByte
  split
  · exact h
  · split
    · split <;> exact h
    · exact h.frameByte _

theorem MetresKept.lineBytes {d : Device} (h : MetresKept d) (bytes : List Byte) : MetresKept (lineBytes bytes d) := by
  unfold Machine.lineBytes
  induction bytes generalizing d with
  | nil => exact h
  | cons b rest ih => exact ih (h.lineByte b)

theorem MetresKept.transmitted {d : Device} (h : MetresKept d) : MetresKept (transmitted d) := by
  unfold Machine.transmitted
  split
  · exact h
  · refine MetresKept.serve (h.of_same ?_)
    unfold sentWhole
    split <;> simp

/-! ### The supply -/

/-- What a start leaves of the gauges: no load, the residues that backed storage gives, and the meter it restores. -/
theorem start_gauge (c : Calendar) (saved : Option Saved) (d : Device) :
    (start c saved d).tariff.gauge = (startTariff d.tariff saved).gauge
      ∧ (start c saved d).meter.gauge
        = (restoredMeter d.tariff.inForce (saved.map Saved.meter) (c.time.map fun t => ⟨t.day, t.second⟩)
            d.meter.lastShift).gauge := by
  simp only [start, finish_tariff, finish_meter, startNotices, notifyIf_tariff, notifyIf_meter, notify_tariff, notify_meter,
    evaluate_same, askStatus_tariff, askStatus_meter, makeAccounting_tariff, makeAccounting_meter]
  exact ⟨rfl, rfl⟩

/-- The restored meter is UNCALIBRATED exactly with no set in force, and a shift it holds is the saved one (R25). -/
theorem restoredMeter_spec (inForce : Option TariffSet) (saved : Option SavedMeter) (now : Option Reading)
    (lastShift : Nat) :
    let m := restoredMeter inForce saved now lastShift
    (m.state = .uncalibrated ↔ inForce = none) ∧ m.shift.isSome = m.state.shiftOpen
      ∧ ∀ x ∈ m.shift, x ∈ saved.bind SavedMeter.shift := by
  unfold restoredMeter
  split <;> simp [MeterState.shiftOpen, *]

/-- A part starts with the saved residues and the saved shift, when something was saved, or with residues 0 and no shift:
either way the distances stay in order (R25, R38). -/
theorem MetresKept.start {d : Device} (h : MetresKept d) {saved : Option Saved}
    (hsaved : saved = none ∨ saved = some (savedState d)) (c : Calendar) : MetresKept (start c saved d) := by
  obtain ⟨htariff, hmeter⟩ := start_gauge c saved d
  obtain ⟨hstate, hopen, hshift⟩ :=
    restoredMeter_spec d.tariff.inForce (saved.map Saved.meter) (c.time.map fun t => ⟨t.day, t.second⟩) d.meter.lastShift
  unfold MetresKept
  rw [htariff, hmeter]
  refine ⟨h.le, h.top, fun hnone => ?unset, fun set hset => ?lifetime, fun set hset y hy => ?shift, hstate,
    by simpa [Meter.gauge] using hopen, by simp [startTariff, TariffStore.gauge], by simp [startTariff, TariffStore.gauge]⟩
  case unset =>
    obtain rfl | rfl := hsaved
    · exact ⟨rfl, rfl⟩
    · exact h.unset hnone
  case lifetime =>
    obtain rfl | rfl := hsaved
    · exact Distances.ordered_of_no_residue (h.lifetime set hset).pos h.le h.top
    · exact h.lifetime set hset
  case shift =>
    obtain ⟨x, hx, rfl⟩ := Option.map_eq_some_iff.mp hy
    have hx' := hshift x hx
    obtain rfl | rfl := hsaved
    · simp at hx'
    · exact h.shift set hset _ (Option.mem_map_of_mem Shift.distances hx')

/-- Backed storage holds nothing, or what the warning saved (R24). -/
theorem SupplyLaw.backed {d : Device} (h : SupplyLaw d) : d.backed = none ∨ d.backed = some (savedState d) := by
  obtain ⟨hbacked, -⟩ := h
  rw [hbacked]
  split <;> simp

theorem MetresKept.powerUp {d : Device} (h : MetresKept d) (hsupply : SupplyLaw d) (backup : Option Nat) (kept : Bool) :
    MetresKept (powerUp backup kept d) := by
  refine h.start ?_ _
  split
  · exact hsupply.backed
  · exact .inl rfl

theorem MetresKept.release {d : Device} (h : MetresKept d) (hsupply : SupplyLaw d) (elapsed : Nat) :
    MetresKept (release elapsed d) := by
  unfold Machine.release
  split
  · exact h.start hsupply.backed _
  · exact h

/-- A supply warning ends a load and leaves the distances (R24, R67). -/
theorem MetresKept.warn {d : Device} (h : MetresKept d) : MetresKept (warn d) := MetresLaw.dropLoad h

/-! ### The commands -/

/-- A block sent to the cab is taken by its owner, or changes nothing that the law reads (R93). -/
theorem MetresKept.downlink {d : Device} (h : MetresKept d) {owner : Device → Device} (howner : ∀ e, SameGauges e (owner e))
    (dest : DownAddr) (identity : Option Nat) (zoned : Bool) : MetresKept (downlink dest identity zoned owner d) := by
  unfold Machine.downlink
  dsimp only
  split
  · exact h
  · have hcollecting : MetresKept (endCollecting d) := h.of_same (by simp)
    split
    · exact (hcollecting.of_same (howner _)).finish
    · exact hcollecting

@[simp] theorem takeUnmetered_same (d : Device) : SameGauges d (takeUnmetered d) := by simp [takeUnmetered]

@[simp] theorem clockAhead_same (d : Device) : SameGauges d (clockAhead d) := by simp [clockAhead, markClock]

@[simp] theorem removeJob_same (r : RemovalReason) (job : Nat) (d : Device) : SameGauges d (removeJob r job d) := by
  unfold removeJob
  split <;> simp

@[simp] theorem headerArrives_same (block : List Byte) (d : Device) : SameGauges d (headerArrives block d) := by
  unfold headerArrives
  split <;> simp

@[simp] theorem discardBlock_same (block : List Byte) (d : Device) : SameGauges d (discardBlock block d) := by
  unfold discardBlock
  split
  · simp
  · split <;> simp

@[simp] theorem takeAssignFor_same (identity address : Nat) (d : Device) :
    SameGauges d (if identityIs identity d then takeAssign address d else d) := by
  split <;> simp

theorem MetresKept.endEvent {d e : Device} (h : MetresKept d) (hsame : SameGauges d e) : MetresKept (endEvent e) :=
  h.of_same (by simpa using hsame)

/-- Every command keeps the invariant; power-on and the release of a warning rest on what backed storage holds. -/
theorem MetresKept.after {s : State} (hm : MetresKept s.dev) (hsupply : SupplyLaw s.dev) (c : Instr) :
    MetresKept (after c s) := by
  cases c with
  | powerOn backup kept => exact hm.powerUp hsupply backup kept
  | supplyWarningRelease elapsed => exact hm.release hsupply elapsed
  | supplyWarning =>
    change MetresKept (if held s.dev then s.dev else Machine.warn s.dev)
    split
    · exact hm
    · exact hm.warn
  | tick panic occupied switchOpen => exact hm.tick panic occupied switchOpen
  | calibrationSwitchChange =>
    exact hm.takeWhen (MetresKept.sampleSwitch (d := differingSwitch s.dev) hm _)
  | resumeWindowExpiry | unmeteredEvent | sensorFault | minuteChange | clockDayRangeEnd | frameGapTimeout
  | logonBackoffEnd | accountingHoldEnd | cancelWindowExpiry | answerTimerExpiry | cancelLimit =>
    exact hm.takeWhen (hm.of_same (by simp))
  | backoffEnd order => exact hm.takeWhen hm
  | reassemblyTimeout buffer => exact hm.takeWhen (hm.of_same (by simp))
  | offerWindowExpiry job | awardDeadlineExpiry job =>
    exact hm.takeWhen (hm.of_same (by simp))
  | panicRaise | panicRearm =>
    exact hm.takeWhen (hm.of_same (by simp [markPanic, setPanicPin]))
  | occupancyLevelChange =>
    exact hm.takeWhen (hm.of_same (by simp [markOccupancy, differingLevel]))
  | headerLossTimeout | lostPeriodExpiry | holdTimerExpiry =>
    exact hm.takeWhen (hm.of_same (by simp [markChannel]))
  | trackTimerExpiry => exact hm.takeWhen (hm.of_same (by simp [markTrack]))
  | wheelEdge a b => exact hm.endEvent (by simp)
  | slotGranted slot | slotPolled slot => exact hm.endEvent (by simp)
  | cycleStart | slotEmergency | slotContention => exact hm.endEvent (by simp)
  | displayRecordSent | flashClock => exact hm
  | uplinkPhaseStart =>
    change MetresKept (if s.dev.uplink.plan.isNone then Machine.endEvent (makePlan s.dev) else s.dev)
    split
    · exact hm.endEvent (by simp)
    · exact hm
  | headerPart block => exact hm.of_same (headerArrives_same block s.dev)
  | downlinkBlockDiscarded block => exact hm.of_same (discardBlock_same block s.dev)
  | frameReceived bytes => exact hm.lineBytes bytes
  | frameLengthOversize length => exact hm.lineByte length
  | frameStart => exact hm.lineByte startByte
  | transmitComplete => exact hm.transmitted
  | assign dest identity address => exact hm.downlink (takeAssignFor_same identity address) _ _ _
  | bar | unbar | networkReset | offer | offerDetail | award | withdraw | jobCancel | zonePosition | textPart
  | emergencyAck | emergencyClear => exact hm.downlink (fun _ => by simp) _ _ _
  | shiftOpen | hire | stop | resume | clear | shiftClose | addExtra | meterRead | totalsRead | tariffBegin
  | tariffItemSetCalibration | tariffItemSetTariff | tariffItemRemoveTariff | tariffItemSetDefault | bandAdd
  | bandRemove | scheduleClear | tariffItemSetSupplement | tariffItemRemoveSupplement | tariffItemSetDecimals
  | tariffItemSetIdentity | tariffCommit | tariffAbandon | tariffRead | clockSet | position | rescan | accept
  | decline | noshow | offerList | book | unbook | mailList | mailRead | mailReply | mailDelete | sendText
  | emergencyRaise | emergencyCancel | signLoad | signBlank | signRead | status | setConfigArbitrationMode
  | setConfigCovert | setConfigTrackInterval | setConfigAcceptanceList | setConfigSensorMode
  | setConfigOccupancyCheck | setConfigLampPolarity | getConfig | identify | reset | tagZeroRequest
  | unknownKindRequest =>
    exact hm.request _ _ _

/-- What a command leaves is the part after it. -/
theorem dev_of_exec {c : Instr} {s t : State} (h : exec c s = .next t) : t.dev = after c s := by
  rw [after, h]

/-- Every step keeps the invariant; on an empty queue the part idles (log 5). -/
theorem Lawful.metresKept_step {s t : State} (h : Lawful s.dev) (hstep : step s = .next t) : MetresKept t.dev := by
  unfold step at hstep
  split at hstep
  case h_1 =>
    cases hstep
    exact h.metresKept
  case h_2 c rest _ =>
    rw [dev_of_exec hstep]
    exact MetresKept.after (s := ⟨rest, s.dev⟩) h.metresKept h.supply c

/-- Settles O7: the invariant `MetresKept`, which a lawful part has and every command keeps, is the third law with what the
law rests on. -/
theorem hiredMetresStayBelowTotal : Obligations.HiredMetresStayBelowTotal := by
  intro s t hlawful hstep
  have hkept := hlawful.metresKept_step hstep
  exact ⟨hkept.distanceLaw, hkept.le, hkept.shift_le⟩

end Sys2Proof.Machine
end

section
/-! The Job Offers part's zone booking (07): BOOK and UNBOOK as the host's link sees them (R143, R146). -/

namespace Sys2Proof.Machine

open Sys2Proof

/-! ### Requests that change nothing but the link -/

/-- A request that its owner refuses reads the part (R192). -/
theorem reads_of_refuse {c : Instr} {kind tag : Byte} {body : List Byte}
    {owner : List Byte → Device → Answer × Device} {r : Result} {s : State}
    (hready : LinkReady s.dev) (htrue : SignTrue s.dev) (htag : tag ≠ 0)
    (hexec : exec c s = onDevice (request kind tag body) s) (howner : ownerOf kind.toNat = some owner)
    (hrefuse : owner body (takeInHand ⟨kind, tag, body⟩ [] s.dev) = refuse r (takeInHand ⟨kind, tag, body⟩ [] s.dev)) :
    Reads c s (refusal kind tag r) :=
  hexec.trans (onDevice_request_of_refuse hready htrue htag howner hrefuse)

/-- A request that its owner answers with ALREADY reads the part (R192). -/
theorem reads_of_already {c : Instr} {kind tag : Byte} {body : List Byte}
    {owner : List Byte → Device → Answer × Device} {data : ReplyData} {s : State}
    (hready : LinkReady s.dev) (htrue : SignTrue s.dev) (htag : tag ≠ 0)
    (hexec : exec c s = onDevice (request kind tag body) s) (howner : ownerOf kind.toNat = some owner)
    (halready : owner body (takeInHand ⟨kind, tag, body⟩ [] s.dev)
      = already data (takeInHand ⟨kind, tag, body⟩ [] s.dev)) :
    Reads c s ⟨kind, tag, .ok, .already, data⟩ := by
  have h := onDevice_request_of_owner (e := s.dev) hready htag howner halready
  rw [refresh_of_true htrue] at h
  exact hexec.trans h

/-! ### The queue does not see the link -/

/-- What the queue answers and how it changes do not depend on the link, which it leaves alone. -/
theorem ask_with_link (m : Msg) (l : Link) (d : Device) :
    ask m { d with link := l } = ((ask m d).1, { (ask m d).2 with link := l }) := by
  simp only [ask, hasStatus]
  split_ifs <;> rfl

/-- Asking for a STATUS leaves the link alone and does not depend on it. -/
theorem askStatus_with_link (l : Link) (d : Device) :
    askStatus { d with link := l } = { askStatus d with link := l } := by
  simp only [askStatus, ask_with_link]

/-! ### The change of the booking that BOOK and UNBOOK share -/

/-- The booking becomes `b`, the answer timer is stopped and a STATUS is asked for (R143, R146). -/
def rebooked (b : Booking) (d : Device) : Device :=
  askStatus { d with offers := { d.offers with booking := b, answer := none } }

/-- The change of the booking leaves the link alone and does not depend on it. -/
theorem rebooked_with_link (b : Booking) (l : Link) (d : Device) :
    rebooked b { d with link := l } = { rebooked b d with link := l } :=
  askStatus_with_link l { d with offers := { d.offers with booking := b, answer := none } }

/-- The change of the booking is not the link's. -/
@[simp] theorem rebooked_link (b : Booking) (d : Device) : (rebooked b d).link = d.link := askStatus_link _

/-- A request whose owner changes the booking is answered with OK and leaves the part with the booking changed. -/
theorem answered_of_rebooked {c : Instr} {kind tag : Byte} {body : List Byte}
    {owner : List Byte → Device → Answer × Device} {b : Booking} {s : State}
    (hready : LinkReady s.dev) (htag : tag ≠ 0) (hexec : exec c s = onDevice (request kind tag body) s)
    (howner : ownerOf kind.toNat = some owner)
    (hrebook : owner body (takeInHand ⟨kind, tag, body⟩ [] s.dev)
      = ok (rebooked b (takeInHand ⟨kind, tag, body⟩ [] s.dev))) :
    Answered c s (okReply kind tag .none) (rebooked b s.dev) := by
  rw [takeInHand, rebooked_with_link] at hrebook
  rw [Answered, hexec, rebooked_link]
  exact onDevice_request_of_owner hready htag howner hrebook

/-! ### BOOK (R143) -/

/-- The command is the request of kind 24h. -/
theorem exec_book (tag : Byte) (body : List Byte) (s : State) :
    exec (.book tag body) s = onDevice (request 0x24 tag body) s := rfl

/-- The first check: a zone outside 1 to 250 is refused. -/
theorem askBook_of_zone_outside {zone : Byte} {d : Device} (h : zone.toNat = 0 ∨ 250 < zone.toNat) :
    askBook [zone] d = refuse .outOfRange d := by
  have hout : zone.toNat < 1 ∨ 250 < zone.toNat := by omega
  simp only [askBook, withLength, List.length_singleton, byteAt_singleton, if_true, if_pos hout]

/-- Past the first check, BOOK rests on the meter and on the registration. -/
theorem askBook_of_zone_inside {zone : Byte} {d : Device} (h1 : 1 ≤ zone.toNat) (h250 : zone.toNat ≤ 250) :
    askBook [zone] d
      = if d.meter.state ≠ .forHire ∨ d.channel.reg ≠ .registered then refuse .wrongState d
        else if d.emergency.state ≠ .quiet then refuse .notPermitted d
        else bookZone zone.toNat d := by
  have hin : ¬ (zone.toNat < 1 ∨ 250 < zone.toNat) := by omega
  simp only [askBook, withLength, List.length_singleton, byteAt_singleton, if_true, if_neg hin]

/-- The second check: the vehicle must be FOR_HIRE and REGISTERED. -/
theorem askBook_of_wrongState {zone : Byte} {d : Device} (h1 : 1 ≤ zone.toNat) (h250 : zone.toNat ≤ 250)
    (hstate : d.meter.state ≠ .forHire ∨ d.channel.reg ≠ .registered) : askBook [zone] d = refuse .wrongState d := by
  rw [askBook_of_zone_inside h1 h250, if_pos hstate]

/-- FOR_HIRE and REGISTERED, BOOK rests on the third check, the emergency state. -/
theorem askBook_of_forHire {zone : Byte} {d : Device} (h1 : 1 ≤ zone.toNat) (h250 : zone.toNat ≤ 250)
    (hmeter : d.meter.state = .forHire) (hreg : d.channel.reg = .registered) :
    askBook [zone] d
      = if d.emergency.state ≠ .quiet then refuse .notPermitted d else bookZone zone.toNat d := by
  have hstate : ¬ (d.meter.state ≠ .forHire ∨ d.channel.reg ≠ .registered) := by simp [hmeter, hreg]
  rw [askBook_of_zone_inside h1 h250, if_neg hstate]

/-- A booking already in the zone is ALREADY. -/
theorem bookZone_of_bookingIn {zone : Nat} {d : Device} (h : bookingIn zone d = true) :
    bookZone zone d = already .none d := if_pos h

/-- Otherwise the booking becomes BOOK_PENDING in the zone. -/
theorem bookZone_of_not_bookingIn {zone : Nat} {d : Device} (h : ¬ bookingIn zone d = true) :
    bookZone zone d = ok (rebooked (.pending zone) d) := if_neg h

/-! ### UNBOOK (R146) -/

/-- The command is the request of kind 25h. -/
theorem exec_unbook (tag : Byte) (body : List Byte) (s : State) :
    exec (.unbook tag body) s = onDevice (request 0x25 tag body) s := rfl

/-- With no booking held, UNBOOK is ALREADY. -/
theorem askUnbook_of_none {d : Device} (h : d.offers.booking = .none) : askUnbook [] d = already .none d := by
  simp [askUnbook, withLength, h]

/-- A booking held is released. -/
theorem askUnbook_of_ne_none {d : Device} (h : d.offers.booking ≠ .none) :
    askUnbook [] d = ok (rebooked .none d) := by
  simp [askUnbook, withLength, h, rebooked]

/-- Settles O36: each outcome of the two owners, carried through the link by the rule for its kind of answer. -/
theorem bookingFollowsItsRules : Obligations.BookingFollowsItsRules := by
  unfold Obligations.BookingFollowsItsRules
  intro s tag zone hready htrue htag b here
  refine ⟨fun hout => ?outOfRange, fun h1 h250 hstate => ?wrongState, fun h1 h250 hmeter hreg => ?checked,
    fun hnone => ?noBooking, fun hheld => ?released⟩
  case outOfRange =>
    exact reads_of_refuse hready htrue htag (exec_book ..) rfl (askBook_of_zone_outside hout)
  case wrongState =>
    exact reads_of_refuse hready htrue htag (exec_book ..) rfl (askBook_of_wrongState h1 h250 hstate)
  case checked =>
    have hask : askBook [zone] (takeInHand ⟨0x24, tag, [zone]⟩ [] s.dev)
        = if s.dev.emergency.state ≠ .quiet then refuse .notPermitted (takeInHand ⟨0x24, tag, [zone]⟩ [] s.dev)
          else bookZone zone.toNat (takeInHand ⟨0x24, tag, [zone]⟩ [] s.dev) :=
      askBook_of_forHire h1 h250 hmeter hreg
    split_ifs at hask ⊢ with hcall hhere
    · exact reads_of_refuse hready htrue htag (exec_book ..) rfl hask
    · exact reads_of_already hready htrue htag (exec_book ..) rfl (hask.trans (bookZone_of_bookingIn hhere))
    · exact answered_of_rebooked hready htag (exec_book ..) rfl (hask.trans (bookZone_of_not_bookingIn hhere))
  case noBooking =>
    exact reads_of_already hready htrue htag (exec_unbook ..) rfl (askUnbook_of_none hnone)
  case released =>
    exact answered_of_rebooked hready htag (exec_unbook ..) rfl (askUnbook_of_ne_none hheld)

end Sys2Proof.Machine
end

section
/-! The Host Link's reading requests (11, 01): STATUS, METER_READ and TOTALS_READ (R18, R19, R194, R195). -/

namespace Sys2Proof.Machine

open Sys2Proof

/-! ### Requests that succeed -/

/-- A link that can take a request at once has none queued (R191). -/
theorem LinkReady.input_eq_nil {d : Device} (h : LinkReady d) : d.link.input = [] := by
  obtain ⟨-, -, -, hinput⟩ := h
  exact hinput

/-- An owner that makes the same change with the request in hand as without it may also write the link's own fields, such
as the sticky conditions: the part is left as that change leaves it, and the link takes the reply (R191 to R193). -/
theorem answered_of_takeInHand {c : Instr} {kind tag : Byte} {body : List Byte}
    {owner : List Byte → Device → Answer × Device} {data : ReplyData} {s : State} {e : Device}
    (hready : LinkReady s.dev) (htag : tag ≠ 0) (hexec : exec c s = onDevice (request kind tag body) s)
    (howner : ownerOf kind.toNat = some owner) (hinput : e.link.input = [])
    (hok : owner body (takeInHand ⟨kind, tag, body⟩ [] s.dev) = okWith data (takeInHand ⟨kind, tag, body⟩ [] e)) :
    Answered c s (okReply kind tag data) e := by
  have hlink : (takeInHand ⟨kind, tag, body⟩ [] e).link.answering (okReply kind tag data)
      = e.link.answering (okReply kind tag data) := by
    rw [takeInHand, Link.answering, Link.answering, ← hinput]
  have hrefresh : refresh (takeInHand ⟨kind, tag, body⟩ [] e)
      = { refresh e with link := (takeInHand ⟨kind, tag, body⟩ [] e).link } := refresh_with_link _ e
  have hfinish := finish_reply (okReply kind tag data) (takeInHand ⟨kind, tag, body⟩ [] e) rfl
  rw [hrefresh, hlink] at hfinish
  have htake : takeFrame ⟨kind, tag, body⟩ [] s.dev
      = finish (replyWaits (okReply kind tag data) (takeInHand ⟨kind, tag, body⟩ [] e)) := by
    simp only [takeFrame, judgeFrame, if_neg htag, howner, hok]
    rfl
  rw [Answered, hexec, onDevice_request kind tag body hready, htake, hfinish]

/-- A request that its owner answers with data, changing nothing, reads the part (R192). -/
theorem reads_of_okWith {c : Instr} {kind tag : Byte} {body : List Byte}
    {owner : List Byte → Device → Answer × Device} {data : ReplyData} {s : State}
    (hready : LinkReady s.dev) (htrue : SignTrue s.dev) (htag : tag ≠ 0)
    (hexec : exec c s = onDevice (request kind tag body) s) (howner : ownerOf kind.toNat = some owner)
    (hok : owner body (takeInHand ⟨kind, tag, body⟩ [] s.dev)
      = okWith data (takeInHand ⟨kind, tag, body⟩ [] s.dev)) :
    Reads c s (okReply kind tag data) := by
  have h := answered_of_takeInHand hready htag hexec howner hready.input_eq_nil hok
  rwa [Answered, refresh_of_true htrue] at h

/-! ### STATUS (R194, R195) -/

/-- The command is the request of kind 38h. -/
theorem exec_status (tag : Byte) (body : List Byte) (s : State) :
    exec (.status tag body) s = onDevice (request 0x38 tag body) s := rfl

/-- The report counts the unread messages of the Mailbox. -/
theorem statusReply_unread (d : Device) :
    (statusReply d).unread = d.mail.mail.countP (fun m => m.state == .unread) :=
  List.countP_eq_length_filter.symm

/-- Nothing that STATUS reports depends on the request in hand. -/
theorem statusReply_takeInHand (f : Frame) (rest : List Frame) (d : Device) :
    statusReply (takeInHand f rest d) = statusReply d := rfl

/-- STATUS reports the conditions as they stand and then clears them together, whatever request is in hand. -/
theorem askStatusRead_takeInHand (f : Frame) (rest : List Frame) (d : Device) :
    askStatusRead [] (takeInHand f rest d)
      = okWith (.status (statusReply d)) (takeInHand f rest (onSticky (fun _ => .clear) d)) := by
  rw [askStatusRead, withLength, if_pos List.length_nil, statusReply_takeInHand]
  rfl

/-- STATUS is answered with its report, and leaves the sticky conditions cleared. -/
theorem status_answered {s : State} {tag : Byte} (hready : LinkReady s.dev) (htag : tag ≠ 0) :
    Answered (.status tag []) s (okReply 0x38 tag (.status (statusReply s.dev)))
      (onSticky (fun _ => .clear) s.dev) := by
  exact answered_of_takeInHand hready htag (exec_status ..) rfl hready.input_eq_nil (askStatusRead_takeInHand ..)

/-! ### METER_READ (R18) -/

/-- The command is the request of kind 08h. -/
theorem exec_meterRead (tag : Byte) (body : List Byte) (s : State) :
    exec (.meterRead tag body) s = onDevice (request 0x08 tag body) s := rfl

/-- In every meter state METER_READ tells the state, the shift's number and the trip report due in that state. -/
theorem askMeterRead_nil (d : Device) :
    askMeterRead [] d
      = okWith (.meter d.meter.state (d.meter.shift.map Shift.number) (tripReportNow d)) d := by
  rw [askMeterRead, withLength, if_pos List.length_nil]

/-- METER_READ changes nothing. -/
theorem meterRead_reads {s : State} {tag : Byte} (hready : LinkReady s.dev) (htrue : SignTrue s.dev) (htag : tag ≠ 0) :
    Reads (.meterRead tag []) s
      (okReply 0x08 tag (.meter s.dev.meter.state (s.dev.meter.shift.map Shift.number) (tripReportNow s.dev))) :=
  reads_of_okWith hready htrue htag (exec_meterRead ..) rfl (askMeterRead_nil _)

/-! ### TOTALS_READ (R19) -/

/-- The command is the request of kind 09h. -/
theorem exec_totalsRead (tag : Byte) (body : List Byte) (s : State) :
    exec (.totalsRead tag body) s = onDevice (request 0x09 tag body) s := rfl

/-- In every meter state TOTALS_READ tells the lifetime totals and those of the open shift. -/
theorem askTotalsRead_nil (d : Device) :
    askTotalsRead [] d = okWith (.totals d.tariff.lifetime (d.meter.shift.map shiftReport)) d := by
  rw [askTotalsRead, withLength, if_pos List.length_nil]

/-- TOTALS_READ changes nothing. -/
theorem totalsRead_reads {s : State} {tag : Byte} (hready : LinkReady s.dev) (htrue : SignTrue s.dev) (htag : tag ≠ 0) :
    Reads (.totalsRead tag []) s
      (okReply 0x09 tag (.totals s.dev.tariff.lifetime (s.dev.meter.shift.map shiftReport))) :=
  reads_of_okWith hready htrue htag (exec_totalsRead ..) rfl (askTotalsRead_nil _)

/-- Settles O19: each of the three requests carries its owner's report, whose fields are the ones listed; the unread
messages alone are counted in another way. -/
theorem statusMeterAndTotalsAreRead : Obligations.StatusMeterAndTotalsAreRead := by
  unfold Obligations.StatusMeterAndTotalsAreRead
  refine ⟨fun s tag hready htag => ?status, fun s tag hready htrue htag => ⟨?meter, ?totals⟩⟩
  case status =>
    rw [← statusReply_unread]
    exact status_answered hready htag
  case meter => exact meterRead_reads hready htrue htag
  case totals => exact totalsRead_reads hready htrue htag

end Sys2Proof.Machine
end
